-- ==== Sys2Proof/Word.lean ====
section
/-! DEFINITION. The word types of the model: bytes of the serial line and of the pair, port masks, and the largest value
of a 32-bit figure. -/

namespace Sys2Proof

/-- One byte of a host frame or of a line message (R62, R180). -/
abbrev Byte := BitVec 8

/-- A set of ports as the part codes it: port 0 in the least significant bit (R182). -/
abbrev PortMask := BitVec 16

/-- The largest value of every 32-bit clock, counter, due time and sequence number, 4,294,967,295 (R10, R11, R84, R103, R140). -/
def maxU32 : Nat := 4294967295

end Sys2Proof
end

