-- ==== Sys2Proof/Config.lean ====
section
/-! DEFINITION. What one make of the part fixes (R183), and the FREE VALUES: constants without a body for the values and
orders that the manual leaves open, so that no proof can lean on a choice of the model. -/

namespace Sys2Proof.Config

/-- The part code of the OFC-16 (R183). -/
def partCode : Nat := 0x16

/-- The silicon revision number of the parts the manual describes (R183). -/
def siliconRevision : Nat := 1

/-- FREE VALUE. The reply code with which an unknown request code of 0x80 or more is answered: R180 gives
'request code + 0x80', which is no byte then (notes/assumptions/7.md). -/
opaque replyCodeBeyond : Nat → Byte

/-- FREE VALUE. The sequence number after the ring's highest, 4,294,967,295 (R174; notes/assumptions/8.md). -/
opaque sequenceBeyond : Nat

/-- FREE VALUE. Which of two hand-overs that reach the arbiter together is taken first (R115, R121), for the use with the
number given (notes/assumptions/9.md). -/
opaque firstTakenFirst : Nat → Bool

end Sys2Proof.Config
end

