-- ==== Sys2Proof/Syntax.lean ====
section
/-! DEFINITION. The commands of the block: one constructor of `Instr` for each row of spec/opcode_table.json. The table
gives no operand fields; the operands are those the rules of each row name (notes/assumptions/1.md). A host request
carries the numbers of its frame (R180); a port event carries its port; a measurement carries the reading. -/

namespace Sys2Proof

/-- A port of the part, 0 to 15 (R42). -/
abbrev PortId := Fin 16

/-- Why a request frame is discarded by the frame receiver or by HLK (R178, R179). -/
inductive RejectCause where
  /-- the 8-bit sum is not 0 (R179) -/
  | badSum
  /-- the body bytes are all 0x00 (R179) -/
  | allZero
  /-- the body bytes are all 0xFF (R179) -/
  | allOnes
  /-- the reply queue holds 4 replies (R179) -/
  | queueFull
  /-- a length byte of 0 or above 60 (R178) -/
  | badLength
  /-- a byte with a framing error inside the frame (R178) -/
  | framingError
  deriving DecidableEq, Repr

/-- Which of the two reads of recovery had not completed at the 200 ms bound (R176). -/
inductive UnreadPart where
  | area
  | ring
  | both
  deriving DecidableEq, Repr

/-- The condition a CHECKIN reports (R62, R71). -/
inductive Condition where
  | sleepNext
  | awake
  | call
  deriving DecidableEq, Repr

/-- The fifteen account parameters, in the order of R20. -/
structure AccountParams where
  ratedCapacity   : Nat
  depthLimit      : Nat
  targetDuration  : Nat
  callCurrent     : Nat
  reserveTime     : Nat
  cabinetCurrent  : Nat
  conserveLimit   : Nat
  slotCeiling     : Nat
  bankCeiling     : Nat
  emptyThreshold  : Nat
  cellWeakVolt    : Nat
  cellFailVolt    : Nat
  cellWeakRes     : Nat
  cellFailRes     : Nat
  lineInterval    : Nat
  deriving DecidableEq, Repr

/-- The data of a SET_PROFILE: the port and the seven fields, as coded in the frame (R51, R180). -/
structure ProfileRequest where
  port          : Nat
  enabled       : Nat
  cls           : Nat
  wakeInterval  : Nat
  burstLimit    : Nat
  feedOnWake    : Nat
  feedLimit     : Nat
  cellInterval  : Nat
  deriving DecidableEq, Repr

/-- The nine port masks of the port event kinds, in priority order (R186). -/
structure PortMasks where
  callStart       : PortMask := 0
  lockout         : PortMask := 0
  trip            : PortMask := 0
  missedCheckin   : PortMask := 0
  callEnd         : PortMask := 0
  terminalChanged : PortMask := 0
  noticeWaiting   : PortMask := 0
  lineTestDone    : PortMask := 0
  cellTestDone    : PortMask := 0
  deriving DecidableEq, Repr

/-- The commands, in the order of the table. -/
inductive Instr where
  /-- VBANK_START (R1): the levels of the LOCK and SPEED straps as they stand then. -/
  | vbankStart (lockHigh speedHigh : Bool)
  /-- VBANK_STOP (R1) -/
  | vbankStop
  /-- RSTN_LOW (R1) -/
  | rstnLow
  /-- RSTN_HIGH (R1): the levels of the LOCK and SPEED straps as they stand then. -/
  | rstnHigh (lockHigh speedHigh : Bool)
  /-- PART_TIME_TICK (R10) -/
  | partTimeTick
  /-- OUTAGE_TIME_TICK (R11) -/
  | outageTimeTick
  /-- RECOVERY_END (R176) -/
  | recoveryEnd
  /-- RECOVERY_TIMEOUT (R176): what had not been read. -/
  | recoveryTimeout (unread : UnreadPart)
  /-- MAINS_FALL (R6) -/
  | mainsFall
  /-- MAINS_RISE (R8) -/
  | mainsRise
  /-- LOSS_CONFIRMATION_EXPIRY (R7) -/
  | lossConfirmationExpiry
  /-- RETURN_CONFIRMATION_EXPIRY (R9) -/
  | returnConfirmationExpiry
  /-- BANK_LOW_FALL (R12) -/
  | bankLowFall
  /-- BANK_LOW_RETURN (R12) -/
  | bankLowReturn
  /-- BANK_LOW_WATCH_EXPIRY (R13) -/
  | bankLowWatchExpiry
  /-- ACCOUNT_SAMPLE (R23): the voltage in mV, the current in mA, and whether the current converted (R18, R19). -/
  | accountSample (volts amps : Int) (valid : Bool)
  /-- FLOAT_RISE (R27) -/
  | floatRise
  /-- FLOAT_FALL (R27) -/
  | floatFall
  /-- FLOAT_CONFIRMATION_EXPIRY (R27) -/
  | floatConfirmationExpiry
  /-- FRAME_REJECTED (R179): the cause. -/
  | frameRejected (cause : RejectCause)
  /-- FRAME_GAP_TIMEOUT (R178) -/
  | frameGapTimeout
  /-- LINE_BREAK (R178) -/
  | lineBreak
  /-- UNKNOWN_REQUEST (R181): the request code and the data bytes after it. -/
  | unknownRequest (code : Byte) (data : List Byte)
  /-- REPLY_SENT (R181) -/
  | replySent
  /-- GET_IDENTITY (R183) -/
  | getIdentity
  /-- GET_STATUS (R183) -/
  | getStatus
  /-- GET_ACCOUNT (R40) -/
  | getAccount
  /-- SET_ACCOUNT_PARAMS (R21) -/
  | setAccountParams (given : AccountParams)
  /-- ACCOUNT_RESET (R41) -/
  | accountReset
  /-- GET_PORT (R59) -/
  | getPort (port : Nat)
  /-- SET_PROFILE (R51) -/
  | setProfile (given : ProfileRequest)
  /-- CLEAR_LOCKOUT (R166) -/
  | clearLockout (port : Nat)
  /-- GET_NOTICE (R76) -/
  | getNotice (port : Nat)
  /-- GET_SCHEDULE (R184) -/
  | getSchedule (part : Nat)
  /-- WAKE (R99, R100) -/
  | wake (port urgency : Nat)
  /-- FEED (R119) -/
  | feed (port : Nat)
  /-- RELEASE (R120) -/
  | release (port : Nat)
  /-- LINE_TEST (R157) -/
  | lineTest (port : Nat)
  /-- CELL_TEST (R143) -/
  | cellTest (port duration : Nat)
  /-- GET_EVENTS (R188) -/
  | getEvents
  /-- CLEAR_EVENTS (R189): the kind set, bit n - 1 for the kind of priority n, and the nine given masks. -/
  | clearEvents (kinds : BitVec 24) (masks : PortMasks)
  /-- SET_EVENT_ENABLE (R187) -/
  | setEventEnable (kinds : BitVec 24)
  /-- PRESENCE (R191) -/
  | presence (token : Nat)
  /-- SAVE_PROFILES (R170) -/
  | saveProfiles
  /-- RESTART (R185) -/
  | restart
  /-- PRESENCE_EARLY_BOUND (R190) -/
  | presenceEarlyBound
  /-- PRESENCE_WINDOW_EXPIRY (R192) -/
  | presenceWindowExpiry
  /-- CHECKIN (R71, R93): a good, valid check-in, and whether its header was corrected (R66). -/
  | checkin (p : PortId) (corrected : Bool) (identity : BitVec 48) (condition : Condition) (cellVolts : Nat)
  /-- NOTICE (R74) -/
  | notice (p : PortId) (corrected : Bool) (code detail : Byte)
  /-- CELL_REPORT (R77, R145) -/
  | cellReport (p : PortId) (corrected : Bool) (vOpen vLoaded iLoad : Nat)
  /-- LINE_MESSAGE_DISCARDED (R70, R71) -/
  | lineMessageDiscarded (p : PortId) (corrected : Bool)
  /-- HEADER_REJECTED (R66, R67): a length of 13 to 15 may stand in a header that was corrected first. -/
  | headerRejected (p : PortId) (corrected : Bool)
  /-- CHECK_FAILURE (R68) -/
  | checkFailure (p : PortId) (corrected : Bool)
  /-- MESSAGE_CUT_OFF (R69) -/
  | messageCutOff (p : PortId) (corrected : Bool)
  /-- TRANSMIT_BEGIN (R79) -/
  | transmitBegin (p : PortId)
  /-- WAKE_PATTERN_END (R80) -/
  | wakePatternEnd (p : PortId)
  /-- FEED_STATE_END (R80) -/
  | feedStateEnd (p : PortId)
  /-- CELL_TEST_ORDER_END (R144) -/
  | cellTestOrderEnd (p : PortId)
  /-- WAKE_DUE (R91) -/
  | wakeDue (p : PortId)
  /-- CHECKIN_TIMER_EXPIRY (R92) -/
  | checkinTimerExpiry (p : PortId)
  /-- AWAKE_SILENCE_EXPIRY (R98) -/
  | awakeSilenceExpiry (p : PortId)
  /-- BURST_TIMER_EXPIRY (R109) -/
  | burstTimerExpiry (p : PortId)
  /-- FEED_CURRENT_SAMPLE (R128): the current at each port's switch, in mA. -/
  | feedCurrentSample (currents : Vector Nat 16)
  /-- SHORT_DETECTED (R130) -/
  | shortDetected (p : PortId)
  /-- OVERLOAD_RISE (R131) -/
  | overloadRise (p : PortId)
  /-- OVERLOAD_FALL (R131) -/
  | overloadFall (p : PortId)
  /-- OVERLOAD_TIMER_EXPIRY (R131) -/
  | overloadTimerExpiry (p : PortId)
  /-- INRUSH_BLANKING_EXPIRY (R131): whether the current then stands above the granted limit. -/
  | inrushBlankingExpiry (p : PortId) (above : Bool)
  /-- CLEAN_FEED_EXPIRY (R138) -/
  | cleanFeedExpiry (p : PortId)
  /-- RETRY_EXPIRY (R136) -/
  | retryExpiry (p : PortId)
  /-- CELL_TEST_DUE (R141) -/
  | cellTestDue (p : PortId)
  /-- REPORT_TIMER_EXPIRY (R148) -/
  | reportTimerExpiry (p : PortId)
  /-- PERIODIC_TEST_DUE (R158) -/
  | periodicTestDue (p : PortId)
  /-- LINE_TEST_TAKE (R159) -/
  | lineTestTake
  /-- LINE_TEST_PHASE_END (R160): the comparators at the end of the phase, true for HIGH. -/
  | lineTestPhaseEnd (aHigh bHigh : Bool)
  /-- LINE_TEST_COMPLETE (R161): the comparators at the end of phase T3, true for HIGH. -/
  | lineTestComplete (aHigh bHigh : Bool)
  /-- SAVE_END (R171): whether the check word read back agrees. -/
  | saveEnd (agrees : Bool)
  /-- CHECKPOINT_TIMER_EXPIRY (R173) -/
  | checkpointTimerExpiry
  /-- CHECKPOINT_WRITE_END (R174): whether the check word read back agrees. -/
  | checkpointWriteEnd (agrees : Bool)
  deriving DecidableEq, Repr

end Sys2Proof
end

