-- ==== Sys2Proof/Decode.lean ====
section
/-! DEFINITION. The words of the outside: what a word of the opcode table spells (none: no row gives bits), what a request
frame on RXD spells (R178 to R181), and what a message on a pair spells (R61, R62, R65 to R71). The last two are the part's own
framing rules; they give the command that a received frame or message is. -/

namespace Sys2Proof

/-- The command a word spells by the bits of the opcode table. The table gives no row any bits, so no word spells one. -/
def decodeTableWord (_nbits _w : Nat) : Option Instr := none

/-! ### Request frames (R178 to R181) -/

/-- A number of several bytes, most significant byte first: on a pair by R61, in a reply by R182. In the data of a request the manual
gives no order, and this one is the model's inference (DEDUCED, notes/assumptions/27.md). -/
def beNat (bytes : List Byte) : Nat := bytes.foldl (fun n b => n * 256 + b.toNat) 0

/-- `len` bytes from place `start` on, as a number. -/
def field (bytes : List Byte) (start len : Nat) : Nat := beNat ((bytes.drop start).take len)

/-- The fifteen parameters of the 26 data bytes of SET_ACCOUNT_PARAMS (R180; byte order notes/assumptions/27.md). -/
def paramsOf (d : List Byte) : AccountParams where
  ratedCapacity  := field d 0 2
  depthLimit     := field d 2 1
  targetDuration := field d 3 1
  callCurrent    := field d 4 2
  reserveTime    := field d 6 2
  cabinetCurrent := field d 8 2
  conserveLimit  := field d 10 2
  slotCeiling    := field d 12 1
  bankCeiling    := field d 13 2
  emptyThreshold := field d 15 2
  cellWeakVolt   := field d 17 2
  cellFailVolt   := field d 19 2
  cellWeakRes    := field d 21 2
  cellFailRes    := field d 23 2
  lineInterval   := field d 25 1

/-- The 13 data bytes of SET_PROFILE (R180; byte order notes/assumptions/27.md). -/
def profileOf (d : List Byte) : ProfileRequest where
  port         := field d 0 1
  enabled      := field d 1 1
  cls          := field d 2 1
  wakeInterval := field d 3 4
  burstLimit   := field d 7 2
  feedOnWake   := field d 9 1
  feedLimit    := field d 10 2
  cellInterval := field d 12 1

/-- A port mask of two bytes, port 0 in the least significant bit, as R182 codes it in a reply; that a request codes it so, most
significant byte first, is the model's inference (notes/assumptions/27.md). -/
def maskField (d : List Byte) (start : Nat) : PortMask := BitVec.ofNat 16 (field d start 2)

/-- The nine masks after the kind set of CLEAR_EVENTS (R189). -/
def masksOf (d : List Byte) : PortMasks where
  callStart       := maskField d 3
  lockout         := maskField d 5
  trip            := maskField d 7
  missedCheckin   := maskField d 9
  callEnd         := maskField d 11
  terminalChanged := maskField d 13
  noticeWaiting   := maskField d 15
  lineTestDone    := maskField d 17
  cellTestDone    := maskField d 19

/-- The kind set in the first three data bytes, most significant first (R187, R189; byte order notes/assumptions/27.md). -/
def kindsOf (d : List Byte) : BitVec 24 := BitVec.ofNat 24 (field d 0 3)

/-- The request a code and its data spell, by the catalogue; an unknown code or a length that does not match is an
UNKNOWN_REQUEST (R180, R181). -/
def requestOf (code : Byte) (d : List Byte) : Instr :=
  match code.toNat, d.length with
  | 0x01, 0 => .getIdentity
  | 0x02, 0 => .getStatus
  | 0x03, 0 => .getAccount
  | 0x04, 26 => .setAccountParams (paramsOf d)
  | 0x05, 0 => .accountReset
  | 0x10, 1 => .getPort (field d 0 1)
  | 0x11, 13 => .setProfile (profileOf d)
  | 0x12, 1 => .clearLockout (field d 0 1)
  | 0x13, 1 => .getNotice (field d 0 1)
  | 0x14, 1 => .getSchedule (field d 0 1)
  | 0x20, 2 => .wake (field d 0 1) (field d 1 1)
  | 0x21, 1 => .feed (field d 0 1)
  | 0x22, 1 => .release (field d 0 1)
  | 0x30, 1 => .lineTest (field d 0 1)
  | 0x31, 2 => .cellTest (field d 0 1) (field d 1 1)
  | 0x40, 0 => .getEvents
  | 0x41, 21 => .clearEvents (kindsOf d) (masksOf d)
  | 0x42, 3 => .setEventEnable (kindsOf d)
  | 0x50, 1 => .presence (field d 0 1)
  | 0x60, 0 => .saveProfiles
  | 0x61, 0 => .restart
  | _, _ => .unknownRequest code d

/-- The 8-bit sum of the length byte, the body and the check byte (R179, R180). -/
def frameSum (body : List Byte) (check : Byte) : Byte := body.foldl (· + ·) (BitVec.ofNat 8 body.length + check)

/-- The judgement of a frame whose check byte has arrived: a wrong sum, a body all 0x00 or all 0xFF, or its request (R179, R181).
A full reply queue is judged when the command acts. -/
def judgeFrame (body : List Byte) (check : Byte) : Instr :=
  if frameSum body check ≠ 0#8 then .frameRejected .badSum
  else if body.all fun b => b == 0x00#8 then .frameRejected .allZero
  else if body.all fun b => b == 0xFF#8 then .frameRejected .allOnes
  else
    match body with
    | code :: data => requestOf code data
    | [] => .frameRejected .badLength

/-- The command that a frame is whose bytes from the start byte on have arrived without a gap, a break or a framing error; none
while bytes are missing or where the first byte is not the start byte (R178, R179). The receiver that takes them byte by byte is
in Machine/Wires.lean. -/
def frameOf : List Byte → Option Instr
  | start :: len :: rest =>
    if start ≠ 0xA6#8 then none
    else if len.toNat = 0 ∨ 60 < len.toNat then some (.frameRejected .badLength)
    else (rest.drop len.toNat).head?.map (judgeFrame (rest.take len.toNat))
  | _ => none

/-! ### Messages on a pair (R62, R65 to R71) -/

/-- The sync pattern (R62). -/
def syncPattern : BitVec 16 := 0xC5A3#16

/-- A header position, 1 to 13, in the order sent: position 1 is the most significant of the 13 bits (R62). -/
def position (h : BitVec 13) (k : Nat) : Bool := h.getMsbD (k - 1)

/-- The parity of a list of header positions: true when odd. -/
def parity (h : BitVec 13) (ks : List Nat) : Bool := ks.foldl (fun b k => b != position h k) false

/-- The four correction groups, each with its own position number (R62, R66). -/
def groups : List (Nat × List Nat) :=
  [(1, [1, 3, 5, 7, 9, 11]), (2, [2, 3, 6, 7, 10, 11]), (4, [4, 5, 6, 7, 12]), (8, [8, 9, 10, 11, 12])]

/-- The syndrome of a header (R66). -/
def syndrome (h : BitVec 13) : Nat := (groups.map fun g => if parity h g.2 then g.1 else 0).sum

/-- The overall parity over all 13 positions: true when odd (R66). -/
def overallOdd (h : BitVec 13) : Bool := parity h [1, 2, 3, 4, 5, 6, 7, 8, 9, 10, 11, 12, 13]

/-- A header with one position inverted. -/
def invert (h : BitVec 13) (k : Nat) : BitVec 13 := h ^^^ BitVec.twoPow 13 (13 - k)

/-- The data byte of a header: the kind in its upper four bits, the body length in its lower four (R62). -/
def headerData (h : BitVec 13) : Byte :=
  [3, 5, 6, 7, 9, 10, 11, 12].foldl (fun b k => (b <<< 1) ||| (if position h k then 1#8 else 0#8)) 0#8

/-- What the receiver makes of a header: the data byte to use and whether it was corrected, or not correctable (R66). -/
inductive HeaderJudgement where
  | used (data : Byte) (corrected : Bool)
  | notCorrectable
  deriving DecidableEq, Repr

/-- The judgement of a header (R66). -/
def judgeHeader (h : BitVec 13) : HeaderJudgement :=
  match syndrome h, overallOdd h with
  | 0, false => .used (headerData h) false
  | 0, true => .used (headerData h) true
  | s, true => if s ≤ 12 then .used (headerData (invert h s)) true else .notCorrectable
  | _, false => .notCorrectable

/-- The header of a kind and a body length, with its correction bits and overall parity (R62). -/
def headerOf (data : Byte) : BitVec 13 :=
  let bits := [(3, 7), (5, 6), (6, 5), (7, 4), (9, 3), (10, 2), (11, 1), (12, 0)]
  let h0 := bits.foldl (fun (h : BitVec 13) b => if data.getLsbD b.2 then invert h b.1 else h) 0#13
  let h1 := groups.foldl (fun h g => if parity h0 g.2 then invert h g.1 else h) h0
  if overallOdd h1 then invert h1 13 else h1

/-- One bit into the CRC register, generator x^8 + x^5 + x^4 + 1 (R62). -/
def crcBit (r : Byte) (b : Bool) : Byte :=
  let shifted := r <<< 1
  if r.msb != b then shifted ^^^ 0x31#8 else shifted

/-- One byte into the CRC register, most significant bit first (R61, R62). -/
def crcByte (r : Byte) (x : Byte) : Byte := [7, 6, 5, 4, 3, 2, 1, 0].foldl (fun r k => crcBit r (x.getLsbD k)) r

/-- The check of a message: the register after the header data byte and the body, from 0xFF (R62). -/
def crcOf (bytes : List Byte) : Byte := bytes.foldl crcByte 0xFF#8

/-- The condition of a CHECKIN by its code (R62). -/
def conditionOf : Nat → Option Condition
  | 1 => some .sleepNext
  | 2 => some .awake
  | 3 => some .call
  | _ => none

/-- The command that a good message is, by its kind, its body length and its condition code (R70, R71). -/
def goodMessage (p : PortId) (corrected : Bool) (kind : Nat) (body : List Byte) : Instr :=
  match kind, body.length with
  | 1, 9 =>
    match conditionOf (field body 6 1) with
    | some c => .checkin p corrected (BitVec.ofNat 48 (field body 0 6)) c (field body 7 2)
    | none => .lineMessageDiscarded p corrected
  | 2, 2 => .notice p corrected (BitVec.ofNat 8 (field body 0 1)) (BitVec.ofNat 8 (field body 1 1))
  | 3, 6 => .cellReport p corrected (field body 0 2) (field body 2 2) (field body 4 2)
  | _, _ => .lineMessageDiscarded p corrected

/-- The judgement of a message whose check has arrived, by the header data byte used: its CRC, and its kind (R68, R70). -/
def judgeBody (p : PortId) (data : Byte) (corrected : Bool) (body : List Byte) (check : Byte) : Instr :=
  if crcOf (data :: body) = check then goodMessage p corrected (data.toNat / 16) body else .checkFailure p corrected

/-- The body length that a header data byte declares, 0 to 15 (R62). -/
def bodyLength (data : Byte) : Nat := data.toNat % 16

/-- The command that a message is whose sync has been found on a pair: its 13 header bits, then the bytes that followed, until the
declared body and the check have arrived or the bit timing was lost (R66 to R70). The receiver that takes them bit by bit is in
Machine/Wires.lean. -/
def messageOf (p : PortId) (header : BitVec 13) (bytes : List Byte) : Instr :=
  match judgeHeader header with
  | .notCorrectable => .headerRejected p false
  | .used data corrected =>
    if 12 < bodyLength data then .headerRejected p corrected
    else
      match (bytes.drop (bodyLength data)).head? with
      | none => .messageCutOff p corrected
      | some check => judgeBody p data corrected (bytes.take (bodyLength data)) check

/-- The bytes after the header of a message with a data byte and a body: the body and its check (R62). -/
def bodyAndCheck (data : Byte) (body : List Byte) : List Byte := body ++ [crcOf (data :: body)]

/-! ### The bits of a message (R61, R62) -/

/-- The bits of a field, most significant first, as they are sent (R61). -/
def fieldBits {w : Nat} (x : BitVec w) : List Bool := List.ofFn fun k : Fin w => x.getMsbD k.val

/-- The number that bits spell, most significant first (R61). -/
def bitsNat (bits : List Bool) : Nat := bits.foldl (fun n b => 2 * n + b.toNat) 0

/-- The first `n` bytes of a run of bits (R61). -/
def bytesOf (n : Nat) (bits : List Bool) : List Byte :=
  List.ofFn fun k : Fin n => BitVec.ofNat 8 (bitsNat ((bits.drop (8 * k.val)).take 8))

/-- A message on the pair: the sync, the header, the body and the check (R62). -/
def messageBits (data : Byte) (body : List Byte) : List Bool :=
  fieldBits syncPattern ++ fieldBits (headerOf data) ++ (bodyAndCheck data body).flatMap fieldBits

end Sys2Proof
end

