-- ==== Sys2Proof/Machine/State.lean ====
section
/-! DEFINITION. The state of the OFC-16 as plain data, block by block, and its value right after a power-on reset.
A timer is an Option: none is idle or stopped, some n is running with n units remaining. -/

namespace Sys2Proof.Machine

/-! ### Names -/

/-- The supply conditions of the part (R1). -/
inductive Supply where
  | stopped
  | held
  | running
  deriving DecidableEq, Repr

/-- The supply mode (R2). -/
inductive Mode where
  | start
  | standby
  | outage
  deriving DecidableEq, Repr

/-- The outage stage (R16): NONE, OPEN, CONSERVE, RESERVE, EXHAUSTED. -/
inductive Stage where
  | noStage
  | openStage
  | conserve
  | reserve
  | exhausted
  deriving DecidableEq, Repr

/-- The effective stage (R38): STANDBY, OPEN, CONSERVE, RESERVE, EXHAUSTED. -/
inductive EffStage where
  | standby
  | openStage
  | conserve
  | reserve
  | exhausted
  deriving DecidableEq, Repr

/-- The service class of a port (R42). -/
inductive ServiceClass where
  | lifeline
  | standard
  | deferred
  deriving DecidableEq, Repr

/-- The ten port states (R44). -/
inductive PortState where
  | off
  | idle
  | waking
  | awake
  | queued
  | fed
  | cellTest
  | lineTest
  | retry
  | locked
  deriving DecidableEq, Repr

/-- The terminal state (R45). -/
inductive TermState where
  | unknown
  | sleep
  | awake
  | call
  deriving DecidableEq, Repr

/-- The lock reason (R47). -/
inductive LockReason where
  | repeatedTrip
  | lineFault
  | recovered
  deriving DecidableEq, Repr

/-- The verdicts of a cell test (R48). -/
inductive CellVerdict where
  | good
  | weak
  | failed
  | noResponse
  | invalid
  deriving DecidableEq, Repr

/-- The verdicts of a line test (R49). -/
inductive LineVerdict where
  | normal
  | openPair
  | crossed
  | pairShort
  | shortHigh
  | shortLow
  | indeterminate
  deriving DecidableEq, Repr

/-- The outcome of the latest line test taken on a port (R49). -/
inductive LineAttempt where
  | verdict (v : LineVerdict)
  | aborted
  deriving DecidableEq, Repr

/-- The kinds of trip (R130, R131). -/
inductive TripKind where
  | short
  | overload
  deriving DecidableEq, Repr

/-- The levels of queue entries and grants, P1 highest (R104). -/
inductive Level where
  | p1
  | p2
  | p3
  | p4
  | p5
  deriving DecidableEq, Repr

/-- The receiver states of a pair, each with what has been received in it (R63, R65 to R68): in HUNT the last bits heard, newest
first, up to 15 of them; in HEADER the header bits, oldest first; in BODY the 13 header bits, the data byte used, whether the header
was corrected, and the bits of body and check, oldest first. -/
inductive RxState where
  | gated
  | hunt (bits : List Bool := [])
  | header (bits : List Bool)
  | body (header : List Bool) (data : Byte) (corrected : Bool) (bits : List Bool)
  deriving DecidableEq, Repr

/-- One sending on a pair: the wake pattern, FEED_STATE (true for FED), CELL_TEST_ORDER with its duration in s (R78). -/
inductive Sending where
  | wakePattern
  | feedState (fed : Bool)
  | cellOrder (duration : Nat)
  deriving DecidableEq, Repr

/-- The phase of a port's cell test (R140). -/
inductive CellPhase where
  | noTest
  | ordering
  | loading
  deriving DecidableEq, Repr

/-- Who asked for a line test (R156). -/
inductive TestSource where
  | host
  | missedCheckin
  | repeatedTrip
  | periodic
  deriving DecidableEq, Repr

/-- The state a port under line test was borrowed from (R155). -/
inductive Borrowed where
  | fromIdle
  | fromLocked
  deriving DecidableEq, Repr

/-- The phases of a line test (R160). -/
inductive TestPhase where
  | connecting
  | t1
  | t2
  | t3
  deriving DecidableEq, Repr

/-- The float confirmation (R27). -/
inductive FloatConf where
  | idle
  | running (seconds : Nat)
  | confirmed
  deriving DecidableEq, Repr

/-- The frame receiver states of the serial line (R178): in BODY the length expected and the body bytes kept, oldest first; in
CHECK the whole body. -/
inductive FrameRx where
  | hunt
  | length
  | body (length : Nat) (kept : List Byte)
  | check (body : List Byte)
  deriving DecidableEq, Repr

/-- The results a reply names (R180). -/
inductive Result where
  | ok
  | okClamped
  | busy
  | badRequest
  | badPort
  | badValue
  | notProvisioned
  | refusedState
  | refusedMode
  | refusedStage
  | refusedAutonomous
  | refusedLocked
  deriving DecidableEq, Repr

/-- The event kinds without a port mask (R186). -/
inductive PlainEvent where
  | stageChange
  | outageBegin
  | outageEnd
  | presenceLost
  | accountUncertain
  | storeFault
  | linkFault
  | restart
  deriving DecidableEq, Repr

/-- The event kinds with a port mask (R186). -/
inductive PortEvent where
  | callStart
  | lockout
  | trip
  | missedCheckin
  | callEnd
  | terminalChanged
  | noticeWaiting
  | lineTestDone
  | cellTestDone
  deriving DecidableEq, Repr

/-- The supervision states (R190). -/
inductive Supervision where
  | supervised
  | autonomous
  deriving DecidableEq, Repr

/-- The presence window (R190): none; long, with the seconds left of its 300; normal, with the seconds left to its latest bound,
of 60, and to its early bound, of 5, which rest at 1 until PRESENCE_EARLY_BOUND. The early bound has passed when none are left. -/
inductive Window where
  | noWindow
  | long (seconds : Nat)
  | normal (seconds early : Nat)
  deriving DecidableEq, Repr

/-- The area state at start (R169). -/
inductive AreaState where
  | good
  | bad
  deriving DecidableEq, Repr

/-- The last save result (R168). -/
inductive SaveResult where
  | noSave
  | done
  | failed
  deriving DecidableEq, Repr

/-- The mode a checkpoint records (R172). -/
inductive RecordedMode where
  | standby
  | outage
  deriving DecidableEq, Repr

/-! ### Records -/

/-- The levels of the input pins (Pins and Supply), and whether the bank stands below 40,000 mV at VSENSE (R12). -/
structure Pins where
  mains   : Bool
  float   : Bool
  rstn    : Bool
  lock    : Bool
  speed   : Bool
  bankLow : Bool
  deriving DecidableEq, Repr

/-- The LOCK and SPEED straps as sampled at the last power-on reset (R2). -/
structure Straps where
  lockHigh  : Bool
  speedHigh : Bool
  deriving DecidableEq, Repr

/-- The supply supervisor (R2). The loss confirmation counts ms, the other timers s. -/
structure Sup where
  mode          : Mode
  partTime      : Nat
  outageTime    : Nat
  lossConf      : Option Nat
  returnConf    : Option Nat
  bankWatch     : Option Nat
  forced        : Bool
  lastOutage    : Nat
  deriving DecidableEq, Repr

/-- The figures of one account sample (R23, R40). -/
structure Figures where
  volts     : Nat
  amps      : Int
  wasHeld   : Bool
  usable    : Nat
  reserve   : Nat
  spendable : Nat
  horizon   : Nat
  allowance : Nat
  cap       : Nat
  drawn     : Nat
  lifelines : Nat
  deriving DecidableEq, Repr

/-- The charge account (R16). -/
structure Cac where
  params       : AccountParams
  qLimit       : Nat
  qUsed        : Nat
  heldCurrent  : Int
  invalidRun   : Nat
  uncertain    : Bool
  lowBankRun   : Nat
  float        : FloatConf
  figures      : Option Figures
  credit       : Int
  stage        : Stage
  candidate    : Option Stage
  promotion    : Nat
  deriving DecidableEq, Repr

/-- The profile of a port (R42). -/
structure Profile where
  enabled      : Bool
  cls          : ServiceClass
  wakeInterval : Nat
  burstLimit   : Nat
  feedOnWake   : Bool
  feedLimit    : Nat
  cellInterval : Nat
  deriving DecidableEq, Repr

/-- The numbers of a CELL_REPORT (R77). -/
structure CellReport where
  vOpen   : Nat
  vLoaded : Nat
  iLoad   : Nat
  deriving DecidableEq, Repr

/-- The cell record (R48). -/
structure CellRecord where
  verdict    : CellVerdict
  report     : Option CellReport
  resistance : Option Nat
  time       : Nat
  deriving DecidableEq, Repr

/-- The line record (R49). -/
structure LineRecord where
  verdict : LineVerdict
  time    : Nat
  deriving DecidableEq, Repr

/-- A notice held in a mailbox (R75). -/
structure Notice where
  code   : Byte
  detail : Byte
  time   : Nat
  deriving DecidableEq, Repr

/-- The notice mailbox of a port (R75). -/
structure Mailbox where
  held    : Option Notice := none
  overrun : Bool := false
  deriving DecidableEq, Repr

/-- The transmitter of a pair and its three slots (R78). -/
structure Transmitter where
  wakeSlot  : Bool := false
  feedSlot  : Option Bool := none
  orderSlot : Option Nat := none
  sending   : Option Sending := none
  deriving DecidableEq, Repr

/-- The five signalling counters (R43). -/
structure Counters where
  good          : Nat := 0
  corrected     : Nat := 0
  uncorrectable : Nat := 0
  checkFailed   : Nat := 0
  cutOff        : Nat := 0
  deriving DecidableEq, Repr

/-- What FSW holds for a port (R125). Blanking and overload timers in ms, the others in s; samples newest first. -/
structure Switch where
  closed   : Bool := false
  samples  : List Nat := [0, 0, 0, 0, 0, 0, 0, 0, 0, 0]
  average  : Nat := 0
  blanking : Option Nat := none
  overload : Option Nat := none
  clean    : Option Nat := none
  trips    : Nat := 0
  backoff  : Option Nat := none
  deriving DecidableEq, Repr

/-- What CTU holds for a port (R140). -/
structure CellUnit where
  due      : Nat
  phase    : CellPhase := .noTest
  duration : Option Nat := none
  report   : Option Nat := none
  deriving DecidableEq, Repr

/-- One port: its record (R42, R43) and what LSG, FSW, CTU and PDI hold for it (R63, R75, R78, R125, R140, R155). -/
structure Port where
  profile     : Profile
  state       : PortState := .off
  term        : TermState := .unknown
  identity    : Option (BitVec 48) := none
  cellVolts   : Option Nat := none
  cellLow     : Bool := false
  hold        : Bool := false
  standbyFeed : Bool := false
  burst       : Option Nat := none
  silence     : Option Nat := none
  checkin     : Option Nat := none
  missed      : Nat := 0
  lockReason  : Option LockReason := none
  cellRecord  : Option CellRecord := none
  lineRecord  : Option LineRecord := none
  lineAttempt : Option LineAttempt := none
  counters    : Counters := {}
  tripKind    : Option TripKind := none
  tripsTotal  : Nat := 0
  mailbox     : Mailbox := {}
  rx          : RxState := .gated
  tx          : Transmitter := {}
  switch      : Switch := {}
  cell        : CellUnit
  periodicDue : Nat
  deriving DecidableEq, Repr

/-- An entry of the wake list (R84). -/
structure WakeEntry where
  port : PortId
  due  : Nat
  deriving DecidableEq, Repr

/-- An entry of the feed queue (R105). -/
structure QueueEntry where
  port    : PortId
  level   : Level
  arrival : Nat
  time    : Nat
  deriving DecidableEq, Repr

/-- A grant record (R106). -/
structure Grant where
  port   : PortId
  level  : Level
  limit  : Nat
  time   : Nat
  number : Nat
  deriving DecidableEq, Repr

/-- The feed-grant arbiter (R103): the queue in queue order, the grants in grant-number order. -/
structure Fga where
  queue   : List QueueEntry
  grants  : List Grant
  counter : Nat
  deriving DecidableEq, Repr

/-- One sample of both conductors, true for HIGH (R160). -/
structure Reading where
  aHigh : Bool
  bHigh : Bool
  deriving DecidableEq, Repr

/-- The test under way in the instrument (R155). -/
structure LineTest where
  port     : PortId
  borrowed : Borrowed
  phase    : TestPhase
  t1       : Option Reading
  t2       : Option Reading
  t3       : Option Reading
  deriving DecidableEq, Repr

/-- An entry of the test queue (R156). -/
structure TestEntry where
  port   : PortId
  source : TestSource
  time   : Nat
  deriving DecidableEq, Repr

/-- The pair diagnostic instrument (R155). -/
structure Pdi where
  instrument : Option LineTest
  queue      : List TestEntry
  deriving DecidableEq, Repr

/-- The contents of the profile area (R168). -/
structure AreaContents where
  profiles : Vector Profile 16
  params   : AccountParams
  enables  : BitVec 17
  deriving DecidableEq, Repr

/-- One checkpoint (R172). -/
structure Checkpoint where
  sequence   : Nat
  qUsed      : Nat
  mode       : RecordedMode
  outageTime : Nat
  lockouts   : PortMask
  deriving DecidableEq, Repr

/-- The store activity (R168). A write carries what it is writing (R171, R174). -/
inductive Activity where
  | idle
  | recovering
  | writingCheckpoint (cp : Checkpoint)
  | saving (area : AreaContents)
  deriving DecidableEq, Repr

/-- The non-volatile store (R168). The check word is held as validity: a profile area or slot is some contents when its
check word agrees and none when it does not (notes/assumptions/4.md). -/
structure Nvs where
  area         : Option AreaContents
  ring         : Vector (Option Checkpoint) 32
  activity     : Activity
  waitingSave  : Bool
  pendingCp    : Bool
  lastSlot     : Nat
  highSequence : Nat
  cpTimer      : Option Nat
  areaAtStart  : AreaState
  saveResult   : SaveResult
  ringUnread   : Bool
  deriving DecidableEq, Repr

/-- One reply waiting in the reply queue (R180, R181). -/
structure Reply where
  code   : Byte
  status : Byte
  result : Result
  data   : List Byte
  deriving DecidableEq, Repr

/-- The host link (R178, R179, R181, R186, R190). Bit n - 1 of `flags` and `enables` is the kind of priority n. -/
structure Hlk where
  frameRx     : FrameRx
  priorFault  : Bool
  replies     : List Reply
  restarting  : Bool
  flags       : BitVec 17
  enables     : BitVec 17
  masks       : PortMasks
  supervision : Supervision
  token       : Nat
  window      : Window
  deriving DecidableEq, Repr

/-- The whole machine. `freeUses` and `pending` are the MODEL's own fields: the number of free values used so far, and the
commands that wait. -/
structure State where
  cond     : Supply
  pins     : Pins
  straps   : Straps
  sup      : Sup
  cac      : Cac
  ports    : Vector Port 16
  wakes    : List WakeEntry
  fga      : Fga
  pdi      : Pdi
  nvs      : Nvs
  hlk      : Hlk
  freeUses : Nat
  pending  : List Instr
  deriving DecidableEq, Repr

/-! ### Outcomes -/

/-- The faults of the machine: there are none. Every command of the table has an effect in every state, so no meaning
faults (NOTES.md, '## Stops'). -/
inductive Fault where
  deriving DecidableEq, Repr

/-- The refusals of the machine. -/
inductive Refusal where
  /-- Raised by `exec` alone, for a command of the table that has no meaning yet. Safe: it proves nothing of the command.
  No command is left without one. -/
  | notModelled (mnemonic : String)
  deriving DecidableEq, Repr

/-! ### Reset values -/

/-- The factory defaults of the account parameters (R20). -/
def defaultParams : AccountParams where
  ratedCapacity  := 40
  depthLimit     := 80
  targetDuration := 8
  callCurrent    := 600
  reserveTime    := 1800
  cabinetCurrent := 120
  conserveLimit  := 500
  slotCeiling    := 6
  bankCeiling    := 4000
  emptyThreshold := 42000
  cellWeakVolt   := 11400
  cellFailVolt   := 10800
  cellWeakRes    := 250
  cellFailRes    := 600
  lineInterval   := 24

/-- The factory defaults of a profile (R42, R169). -/
def defaultProfile : Profile where
  enabled      := false
  cls          := .standard
  wakeInterval := 900
  burstLimit   := 120
  feedOnWake   := true
  feedLimit    := 600
  cellInterval := 30

/-- A port right after a reset: treated as OFF (R44), its fields as R43, R63, R75, R78, R125, R140 and R155 give them. -/
def resetPort (p : PortId) : Port where
  profile     := defaultProfile
  cell        := { due := 3600 + 600 * p.val }
  periodicDue := 24 * 3600

def resetSup : Sup where
  mode       := .start
  partTime   := 0
  outageTime := 0
  lossConf   := none
  returnConf := none
  bankWatch  := none
  forced     := false
  lastOutage := 0

/-- R16. Q_limit and Q_used are settled at the end of START; until then they stand at the value of the default parameters
and at 0 (notes/assumptions/5.md). -/
def resetCac : Cac where
  params      := defaultParams
  qLimit      := 115200000
  qUsed       := 0
  heldCurrent := 0
  invalidRun  := 0
  uncertain   := false
  lowBankRun  := 0
  float       := .idle
  figures     := none
  credit      := 0
  stage       := .noStage
  candidate   := none
  promotion   := 0

/-- R168, with the stored contents of a part that leaves the factory. The three values that recovery settles stand at those
of a bad area and an empty ring until then (notes/assumptions/5.md). -/
def resetNvs : Nvs where
  area         := none
  ring         := Vector.replicate 32 none
  activity     := .recovering
  waitingSave  := false
  pendingCp    := false
  lastSlot     := 31
  highSequence := 0
  cpTimer      := none
  areaAtStart  := .bad
  saveResult   := .noSave
  ringUnread   := false

/-- R178, R179, R181, R186, R190: RESTART pending, every kind counting as enabled. -/
def resetHlk : Hlk where
  frameRx     := .hunt
  priorFault  := false
  replies     := []
  restarting  := false
  flags       := BitVec.twoPow 17 16
  enables     := BitVec.allOnes 17
  masks       := {}
  supervision := .supervised
  token       := 1
  window      := .noWindow

/-- The machine right after a power-on reset of a part that leaves the factory, mains present (notes/assumptions/5.md for
the levels of the pins). -/
def State.reset : State where
  cond     := .running
  pins     := { mains := true, float := false, rstn := true, lock := false, speed := false, bankLow := false }
  straps   := { lockHigh := false, speedHigh := false }
  sup      := resetSup
  cac      := resetCac
  ports    := Vector.ofFn resetPort
  wakes    := []
  fga      := { queue := [], grants := [], counter := 0 }
  pdi      := { instrument := none, queue := [] }
  nvs      := resetNvs
  hlk      := resetHlk
  freeUses := 0
  pending  := []

end Sys2Proof.Machine
end

