-- ==== Sys2Proof/Machine/Operands.lean ====
section
/-! DEFINITION. The operands of the commands: saturation and clamping of the numbers they carry (Conventions: clamped,
saturated, held), and the values the host's requests store. -/

namespace Sys2Proof.Machine

/-- A number brought to the nearer end of its range (Conventions). -/
def clampNat (lo hi n : Nat) : Nat := max lo (min hi n)

/-- A signed number brought to the nearer end of its range (R18, R30). -/
def clampInt (lo hi n : Int) : Int := max lo (min hi n)

/-- A due time or clock formed as `base + more`, saturating at 4,294,967,295 s (R10, R11, R84, R140, R155). -/
def satAdd (base more : Nat) : Nat := min maxU32 (base + more)

/-- A counter increased by 1 that stays at its maximum (R47). -/
def satInc (top n : Nat) : Nat := if n < top then n + 1 else n

/-- The port a request names: none above 15 (R42). -/
def portOf (n : Nat) : Option PortId := if h : n < 16 then some ⟨n, h⟩ else none

/-- The range clamps of SET_ACCOUNT_PARAMS, each value to its range of R20 (R21). -/
def rangeClamp (g : AccountParams) : AccountParams where
  ratedCapacity  := clampNat 1 1000 g.ratedCapacity
  depthLimit     := clampNat 50 100 g.depthLimit
  targetDuration := clampNat 1 72 g.targetDuration
  callCurrent    := clampNat 100 2000 g.callCurrent
  reserveTime    := clampNat 300 14400 g.reserveTime
  cabinetCurrent := clampNat 0 2000 g.cabinetCurrent
  conserveLimit  := clampNat 0 10000 g.conserveLimit
  slotCeiling    := clampNat 1 8 g.slotCeiling
  bankCeiling    := clampNat 500 8000 g.bankCeiling
  emptyThreshold := clampNat 40000 48000 g.emptyThreshold
  cellWeakVolt   := clampNat 9000 14000 g.cellWeakVolt
  cellFailVolt   := clampNat 9000 14000 g.cellFailVolt
  cellWeakRes    := clampNat 50 5000 g.cellWeakRes
  cellFailRes    := clampNat 50 5000 g.cellFailRes
  lineInterval   := clampNat 1 168 g.lineInterval

/-- The two consistency clamps, which move the fail values (R21). -/
def consistencyClamp (g : AccountParams) : AccountParams :=
  { g with
    cellFailVolt := min g.cellFailVolt g.cellWeakVolt
    cellFailRes  := max g.cellFailRes g.cellWeakRes }

/-- The fifteen values SET_ACCOUNT_PARAMS stores: range clamps, then consistency clamps (R21). -/
def storedParams (g : AccountParams) : AccountParams := consistencyClamp (rangeClamp g)

/-- The class code of SET_PROFILE (R51). -/
def classOf : Nat → Option ServiceClass
  | 1 => some .lifeline
  | 2 => some .standard
  | 3 => some .deferred
  | _ => none

/-- The yes and no codes of SET_PROFILE (R51). -/
def yesNoOf : Nat → Option Bool
  | 0 => some false
  | 1 => some true
  | _ => none

/-- The wake interval stored: 0 as given, otherwise 60 to 86,400 s (R51). -/
def storedInterval (w : Nat) : Nat := if w = 0 then 0 else clampNat 60 86400 w

/-- The profile a SET_PROFILE stores, none when a code is bad (R51, case 4). -/
def storedProfile (g : ProfileRequest) : Option Profile :=
  match yesNoOf g.enabled, classOf g.cls, yesNoOf g.feedOnWake with
  | some en, some c, some fw =>
    some { enabled := en, cls := c, wakeInterval := storedInterval g.wakeInterval,
           burstLimit := clampNat 10 1800 g.burstLimit, feedOnWake := fw,
           feedLimit := clampNat 100 1500 g.feedLimit, cellInterval := clampNat 1 90 g.cellInterval }
  | _, _, _ => none

/-- Whether SET_PROFILE changed a value by a clamp (R51). -/
def profileClamped (g : ProfileRequest) (q : Profile) : Bool :=
  q.wakeInterval != g.wakeInterval || q.burstLimit != g.burstLimit || q.feedLimit != g.feedLimit
    || q.cellInterval != g.cellInterval

/-- The load duration a CELL_TEST stores (R143). -/
def storedDuration (d : Nat) : Nat := if d = 0 then 30 else clampNat 10 120 d

/-- The voltage reading of a sample, 0 to 65,535 mV (R18). -/
def voltReading (v : Int) : Nat := (clampInt 0 65535 v).toNat

/-- The current reading of a sample, -30,000 to +30,000 mA (R18). -/
def ampReading (i : Int) : Int := clampInt (-30000) 30000 i

end Sys2Proof.Machine
end

