-- ==== Sys2Proof/Machine/Flags.lean ====
section
/-! DEFINITION. The event flags, masks and enables, ATTN and the link status (R180, R182, R186 to R189). -/

namespace Sys2Proof.Machine

/-- The priority number of an event kind without a mask (R186). -/
def PlainEvent.priority : PlainEvent → Nat
  | .stageChange      => 4
  | .outageBegin      => 5
  | .outageEnd        => 6
  | .presenceLost     => 7
  | .accountUncertain => 14
  | .storeFault       => 15
  | .linkFault        => 16
  | .restart          => 17

/-- The priority number of a port event kind (R186). -/
def PortEvent.priority : PortEvent → Nat
  | .callStart       => 1
  | .lockout         => 2
  | .trip            => 3
  | .missedCheckin   => 8
  | .callEnd         => 9
  | .terminalChanged => 10
  | .noticeWaiting   => 11
  | .lineTestDone    => 12
  | .cellTestDone    => 13

/-- The eight kinds without a mask, in priority order (R186). -/
def plainEvents : List PlainEvent :=
  [.stageChange, .outageBegin, .outageEnd, .presenceLost, .accountUncertain, .storeFault, .linkFault, .restart]

/-- The nine port kinds, in priority order (R186). -/
def portEvents : List PortEvent :=
  [.callStart, .lockout, .trip, .missedCheckin, .callEnd, .terminalChanged, .noticeWaiting, .lineTestDone, .cellTestDone]

/-- The sixteen ports in port order (Conventions). -/
def allPorts : List PortId := [0, 1, 2, 3, 4, 5, 6, 7, 8, 9, 10, 11, 12, 13, 14, 15]

/-- The bit of a kind in a kind set: bit n - 1 for priority n (R187). -/
def kindBit (priority : Nat) : BitVec 17 := BitVec.twoPow 17 (priority - 1)

/-- The mask of one port (R182). -/
def portBit (p : PortId) : PortMask := BitVec.twoPow 16 p.val

/-- The mask of a port kind (R186). -/
def maskOf (m : PortMasks) : PortEvent → PortMask
  | .callStart       => m.callStart
  | .lockout         => m.lockout
  | .trip            => m.trip
  | .missedCheckin   => m.missedCheckin
  | .callEnd         => m.callEnd
  | .terminalChanged => m.terminalChanged
  | .noticeWaiting   => m.noticeWaiting
  | .lineTestDone    => m.lineTestDone
  | .cellTestDone    => m.cellTestDone

/-- The masks with that of one kind replaced (R186). -/
def setMask (m : PortMasks) (k : PortEvent) (v : PortMask) : PortMasks :=
  match k with
  | .callStart       => { m with callStart := v }
  | .lockout         => { m with lockout := v }
  | .trip            => { m with trip := v }
  | .missedCheckin   => { m with missedCheckin := v }
  | .callEnd         => { m with callEnd := v }
  | .terminalChanged => { m with terminalChanged := v }
  | .noticeWaiting   => { m with noticeWaiting := v }
  | .lineTestDone    => { m with lineTestDone := v }
  | .cellTestDone    => { m with cellTestDone := v }

/-- Whether the flag of the kind with this priority is set in a kind set. -/
def kindSet (set : BitVec 17) (priority : Nat) : Bool := set.getLsbD (priority - 1)

/-- Raise an event without a mask: its flag is set, enabled or not (R186). -/
def State.raise (k : PlainEvent) (s : State) : State :=
  { s with hlk := { s.hlk with flags := s.hlk.flags ||| kindBit k.priority } }

/-- Raise a port event: its flag is set and the port joins its mask, enabled or not (R186). -/
def State.raisePort (k : PortEvent) (p : PortId) (s : State) : State :=
  { s with hlk := { s.hlk with
      flags := s.hlk.flags ||| kindBit k.priority
      masks := setMask s.hlk.masks k (maskOf s.hlk.masks k ||| portBit p) } }

/-- ATTN: asserted exactly when a pending flag is enabled, and released while the part is stopped or held (R187, R1). -/
def State.attn (s : State) : Bool :=
  s.cond == .running && (s.hlk.flags &&& s.hlk.enables) != 0

/-- The OUTAGE indication (R15). -/
def State.inOutage (s : State) : Bool := s.sup.mode == .outage

/-- The link status formed when a reply is built (R180, R182). -/
def State.linkStatus (s : State) : Byte :=
  (if s.hlk.priorFault then 1#8 else 0#8)
    ||| (if s.attn then 2#8 else 0#8)
    ||| (if kindSet s.hlk.flags PlainEvent.restart.priority then 4#8 else 0#8)
    ||| (if s.hlk.supervision = .autonomous then 8#8 else 0#8)
    ||| (if s.inOutage then 16#8 else 0#8)

/-- The lowest port of a mask (R188). -/
def lowestPort (m : PortMask) : Option PortId := allPorts.find? fun p => m.getLsbD p.val

/-- The kinds in priority order, each with its mask if it has one (R186). -/
def kindsInOrder (m : PortMasks) : List (Nat × Option PortMask) :=
  [(1, some m.callStart), (2, some m.lockout), (3, some m.trip), (4, none), (5, none), (6, none), (7, none),
   (8, some m.missedCheckin), (9, some m.callEnd), (10, some m.terminalChanged), (11, some m.noticeWaiting),
   (12, some m.lineTestDone), (13, some m.cellTestDone), (14, none), (15, none), (16, none), (17, none)]

/-- The first event: the highest kind both enabled and pending, and for a port kind the lowest port in its mask (R188). -/
def firstEvent (h : Hlk) : Option (Nat × Option PortId) :=
  match (kindsInOrder h.masks).find? fun k => kindSet (h.flags &&& h.enables) k.1 with
  | none => none
  | some (n, none) => some (n, none)
  | some (n, some m) => some (n, lowestPort m)

/-- Clear one kind without a mask if the set names it (R189). -/
def clearPlain (set : BitVec 17) (h : Hlk) (k : PlainEvent) : Hlk :=
  if kindSet set k.priority then { h with flags := h.flags &&& ~~~(kindBit k.priority) } else h

/-- Clear the given ports of one port kind if the set names it; its flag goes with the last port (R189). -/
def clearPort (set : BitVec 17) (given : PortMasks) (h : Hlk) (k : PortEvent) : Hlk :=
  if kindSet set k.priority then
    let rest := maskOf h.masks k &&& ~~~(maskOf given k)
    { h with
      masks := setMask h.masks k rest
      flags := if rest = 0 then h.flags &&& ~~~(kindBit k.priority) else h.flags }
  else h

/-- The clearing of CLEAR_EVENTS (R189). -/
def clearKinds (set : BitVec 17) (given : PortMasks) (h : Hlk) : Hlk :=
  portEvents.foldl (clearPort set given) (plainEvents.foldl (clearPlain set) h)

end Sys2Proof.Machine
end

