-- ==== Sys2Proof/Machine/Ops.lean ====
section
/-! DEFINITION. The shared operations over the port table, the line signalling, the store, the wake list and the test
queue. The arbiter's are in Arbiter.lean, the outage cycle's in Cycle.lean. -/

namespace Sys2Proof.Machine

/-! ### The port table -/

/-- The record of a port (R42). -/
def State.port (s : State) (p : PortId) : Port := s.ports[p.val]

/-- The record of a port replaced. -/
def State.setPort (p : PortId) (q : Port) (s : State) : State := { s with ports := s.ports.set p.val q }

/-- The record of a port changed. -/
def State.modPort (p : PortId) (f : Port → Port) (s : State) : State := s.setPort p (f (s.port p))

/-- Every record changed, each by its own port number. -/
def State.mapPorts (f : PortId → Port → Port) (s : State) : State :=
  { s with ports := Vector.ofFn fun p => f p (s.port p) }

/-- An action taken on each of a list of ports in turn. -/
def State.forPorts (ps : List PortId) (act : PortId → State → State) (s : State) : State :=
  ps.foldl (fun t p => act p t) s

/-- The call flag: the terminal state read as CALL (R45). -/
def Port.call (q : Port) : Bool := q.term == .call

/-- AWAKE if the terminal is awake or in a call, IDLE otherwise (R113). -/
def Port.awakeOrIdle (q : Port) : PortState := if q.term = .awake ∨ q.term = .call then .awake else .idle

/-- Whether a port is neither listened to nor spoken to: OFF or LINE_TEST (R64, R81). -/
def PortState.silent : PortState → Bool
  | .off => true
  | .lineTest => true
  | _ => false

/-- A port goes to a state. Entering OFF or LINE_TEST drops its sendings and gates its receiver; leaving them, its receiver
passes to HUNT (R64, R81). -/
def Port.enter (st : PortState) (q : Port) : Port :=
  if st.silent then { q with state := st, rx := .gated, tx := {} }
  else if q.state.silent then { q with state := st, rx := .hunt, tx := {} }
  else { q with state := st }

/-- The port goes to a state (R44). -/
def State.enter (p : PortId) (st : PortState) (s : State) : State := s.modPort p (Port.enter st)

/-- Whether a port is LOCKED, or in LINE_TEST borrowed from LOCKED (R47). -/
def State.locked (s : State) (p : PortId) : Bool :=
  match (s.port p).state with
  | .locked => true
  | .lineTest =>
    match s.pdi.instrument with
    | some t => t.port == p && t.borrowed == .fromLocked
    | none => false
  | _ => false

/-- The lockout mask (R47). -/
def State.lockoutMask (s : State) : PortMask :=
  allPorts.foldl (fun m p => if s.locked p then m ||| portBit p else m) 0

/-- The lifeline count (R50). -/
def State.lifelineCount (s : State) : Nat :=
  allPorts.countP fun p =>
    (s.port p).profile.cls == .lifeline && (s.port p).profile.enabled && !s.locked p

/-! ### The line signalling -/

/-- The receiver of a port listens: it is not GATED (R64). -/
def Port.listens (q : Port) : Bool := q.rx != .gated

/-- The receiver is taking a message: it is in HEADER or BODY (R79). -/
def RxState.taking : RxState → Bool
  | .header _ => true
  | .body _ _ _ _ => true
  | _ => false

/-- The slot of its kind takes a sending; a wake pattern joins one pending or being sent (R78). -/
def Transmitter.ask (x : Sending) (t : Transmitter) : Transmitter :=
  match x with
  | .wakePattern => if t.sending = some .wakePattern then t else { t with wakeSlot := true }
  | .feedState b => { t with feedSlot := some b }
  | .cellOrder d => { t with orderSlot := some d }

/-- A request for a sending, discarded while the port is OFF or in LINE_TEST (R78, R81). -/
def Port.ask (x : Sending) (q : Port) : Port :=
  if q.state.silent then q else { q with tx := q.tx.ask x }

/-- A sending is asked of a port's transmitter (R78). -/
def State.ask (p : PortId) (x : Sending) (s : State) : State := s.modPort p (Port.ask x)

/-- The next sending in the fixed order: wake pattern, FEED_STATE, CELL_TEST_ORDER (R79); it leaves its slot. -/
def Transmitter.next (t : Transmitter) : Option Transmitter :=
  if t.wakeSlot then some { t with wakeSlot := false, sending := some .wakePattern }
  else
    match t.feedSlot with
    | some b => some { t with feedSlot := none, sending := some (.feedState b) }
    | none =>
      match t.orderSlot with
      | some d => some { t with orderSlot := none, sending := some (.cellOrder d) }
      | none => none

/-- An idle transmitter begins its next sending and the receiver is gated (R79, R64). -/
def Port.beginSending (q : Port) : Port :=
  match q.tx.next with
  | some t => { q with tx := t, rx := .gated }
  | none => q

/-- A sending ends: the next pending one begins at once, or the receiver passes to HUNT (R79). -/
def Port.endSending (q : Port) : Port :=
  match q.tx.next with
  | some t => { q with tx := t }
  | none => { q with tx := { q.tx with sending := none }, rx := .hunt }

/-- The counters of a message whose header was used: good, with a corrected header counted too (R66, R68). -/
def countHeader (corrected : Bool) (c : Counters) : Counters :=
  if corrected then { c with corrected := satInc 65535 c.corrected } else c

/-- A good message is counted (R68). -/
def countGood (corrected : Bool) (q : Port) : Port :=
  { q with counters :=
      { countHeader corrected q.counters with good := satInc 65535 q.counters.good } }

/-! ### The feed switch -/

/-- The switch closes: blanking 200 ms, overload timer idle, clean-feed timer 60 s (R126). -/
def Switch.close (w : Switch) : Switch :=
  { w with closed := true, blanking := some 200, overload := none, clean := some 60 }

/-- The switch opens: blanking, overload timer and clean-feed timer idle (R127). -/
def Switch.openUp (w : Switch) : Switch :=
  { w with closed := false, blanking := none, overload := none, clean := none }

/-- A new current sample replaces the oldest of ten, and the 1 s average is formed anew (R128). -/
def Switch.sample (current : Nat) (w : Switch) : Switch :=
  let xs := ((if w.closed then min 3000 current else 0) :: w.samples).take 10
  { w with samples := xs, average := xs.foldl (· + ·) 0 / 10 }

/-! ### The store -/

/-- The mode as a checkpoint records it (R172). -/
def recordedMode : Mode → RecordedMode
  | .outage => .outage
  | _ => .standby

/-- The sequence number one greater than the highest valid one (R174). -/
def nextSequence (high : Nat) : Nat := if high < maxU32 then high + 1 else Config.sequenceBeyond

/-- The checkpoint that a write beginning now carries (R174). -/
def State.checkpointNow (s : State) : Checkpoint where
  sequence   := nextSequence s.nvs.highSequence
  qUsed      := s.cac.qUsed
  mode       := recordedMode s.sup.mode
  outageTime := s.sup.outageTime
  lockouts   := s.lockoutMask

/-- The ring as a write finds it: all invalid for the first write after an unread ring (R176). -/
def Nvs.ringForWrite (n : Nvs) : Vector (Option Checkpoint) 32 :=
  if n.ringUnread then Vector.replicate 32 none else n.ring

/-- A checkpoint write begins in the slot after the last one written; the slot is invalid until the write has ended and
agreed (R174, R176). -/
def State.beginCheckpoint (s : State) : State :=
  let slot := (s.nvs.lastSlot + 1) % 32
  { s with nvs := { s.nvs with
      activity   := .writingCheckpoint s.checkpointNow
      ring       := s.nvs.ringForWrite.setIfInBounds slot none
      lastSlot   := slot
      pendingCp  := false
      ringUnread := false } }

/-- The runtime copies a save takes (R171). -/
def State.areaNow (s : State) : AreaContents where
  profiles := Vector.ofFn fun p => (s.port p).profile
  params   := s.cac.params
  enables  := s.hlk.enables

/-- A save begins: it takes the runtime copies, and the area is bad until the save has ended and agreed (R171). -/
def State.beginSave (s : State) : State :=
  { s with nvs := { s.nvs with activity := .saving s.areaNow, area := none, waitingSave := false } }

/-- A checkpoint is asked for (R175). -/
def State.requestCheckpoint (s : State) : State :=
  match s.nvs.activity with
  | .idle => s.beginCheckpoint
  | _ => { s with nvs := { s.nvs with pendingCp := true } }

/-- The next operation at the end of a write: a pending checkpoint, then a waiting save, then none (R175). -/
def State.nextOperation (s : State) : State :=
  if s.nvs.pendingCp then s.beginCheckpoint
  else if s.nvs.waitingSave then s.beginSave
  else { s with nvs := { s.nvs with activity := .idle } }

/-- The checkpoint timer restarts with the period of a mode: 300 s in OUTAGE, 3,600 s in STANDBY (R173). -/
def checkpointPeriod : Mode → Nat
  | .outage => 300
  | _ => 3600

/-- The checkpoint timer restarts with the period of the present mode (R173). -/
def State.startCheckpointTimer (s : State) : State :=
  { s with nvs := { s.nvs with cpTimer := some (checkpointPeriod s.sup.mode) } }

/-! ### The effective stage -/

/-- The effective stage, derived from the mode, the stage and the supervision state (R38). -/
def effectiveStage (m : Mode) (st : Stage) (v : Supervision) : EffStage :=
  match m with
  | .outage =>
    match st with
    | .noStage => .conserve
    | .openStage => if v = .autonomous then .conserve else .openStage
    | .conserve => .conserve
    | .reserve => .reserve
    | .exhausted => .exhausted
  | _ => .standby

/-- The effective stage as it stands (R38). -/
def State.eff (s : State) : EffStage := effectiveStage s.sup.mode s.cac.stage s.hlk.supervision

/-- Severity of a stage (R33): OPEN, CONSERVE, RESERVE, EXHAUSTED. -/
def Stage.severity : Stage → Nat
  | .noStage => 0
  | .openStage => 1
  | .conserve => 2
  | .reserve => 3
  | .exhausted => 4

/-- Severity of an effective stage; STANDBY ranks with none (R38). -/
def EffStage.severity : EffStage → Nat
  | .standby => 0
  | .openStage => 1
  | .conserve => 2
  | .reserve => 3
  | .exhausted => 4

/-! ### The wake list -/

/-- A product of the effective-interval table, taken as 345,600 s when greater; none for a wake interval of 0 (R86). -/
def intervalProduct (factor w : Nat) : Option Nat :=
  if w = 0 then none else some (min 345600 (factor * w))

/-- The effective interval of an enabled port (R86). -/
def effectiveInterval (e : EffStage) (c : ServiceClass) (w : Nat) : Option Nat :=
  match e, c with
  | .openStage, _ => intervalProduct 1 w
  | .conserve, .lifeline => intervalProduct 1 w
  | .conserve, _ => intervalProduct 4 w
  | .reserve, .lifeline => intervalProduct 2 w
  | _, _ => none

/-- The effective interval of a port as it stands (R86). -/
def State.interval (s : State) (p : PortId) : Option Nat :=
  effectiveInterval s.eff (s.port p).profile.cls (s.port p).profile.wakeInterval

/-- The order of the wake list: due time, then port number (R84). -/
def WakeEntry.before (a b : WakeEntry) : Bool :=
  a.due < b.due || (a.due == b.due && a.port.val < b.port.val)

/-- An element placed before the first one it goes before. -/
def placeBy {α : Type} (before : α → α → Bool) (x : α) : List α → List α
  | [] => [x]
  | y :: ys => if before x y then x :: y :: ys else y :: placeBy before x ys

/-- The wake list without a port's entry (R84). -/
def dropWake (p : PortId) (ws : List WakeEntry) : List WakeEntry := ws.filter fun e => e.port != p

/-- The wake list with a port's entry set to a due time, replacing its old one (R84). -/
def putWake (p : PortId) (due : Nat) (ws : List WakeEntry) : List WakeEntry :=
  placeBy WakeEntry.before { port := p, due := due } (dropWake p ws)

/-- A port's wake entry is removed. -/
def State.dropWake (p : PortId) (s : State) : State := { s with wakes := Machine.dropWake p s.wakes }

/-- A port's wake entry is set due at a time (R84). -/
def State.putWake (p : PortId) (due : Nat) (s : State) : State := { s with wakes := Machine.putWake p due s.wakes }

/-- Whether a port has a wake list entry, and its due time. -/
def State.wakeOf (s : State) (p : PortId) : Option Nat := (s.wakes.find? fun e => e.port == p).map (·.due)

/-- A port's entry is set due at E + the effective interval, or removed where that is none (R86). -/
def State.setWake (p : PortId) (s : State) : State :=
  match s.interval p with
  | some w => s.putWake p (satAdd s.sup.outageTime w)
  | none => s.dropWake p

/-- WKS wakes a port: WAKING, no wake entry, a wake pattern asked for, the check-in timer stopped (R90). -/
def State.wakePort (p : PortId) (s : State) : State :=
  (((s.modPort p fun q => { q with checkin := none }).enter p .waking).dropWake p).ask p .wakePattern

/-- On a change of the effective stage within OUTAGE, one enabled port's entry is removed, made or kept (R88). -/
def State.rescheduleWake (p : PortId) (s : State) : State :=
  if (s.port p).profile.enabled then
    match s.interval p with
    | none => s.dropWake p
    | some _ =>
      if (s.wakeOf p).isNone ∧ (s.port p).state ≠ .waking then
        s.putWake p (satAdd s.sup.outageTime (4 * p.val))
      else s
  else s

/-- On a change of the effective stage within OUTAGE, WKS goes through the ports (R88). -/
def State.rescheduleWakes (s : State) : State := s.forPorts allPorts State.rescheduleWake

/-! ### The test queue -/

/-- Whether a port has an entry in the test queue (R156). -/
def State.testQueued (s : State) (p : PortId) : Bool := s.pdi.queue.any fun e => e.port == p

/-- A test is asked for a port: a new entry at the end unless it already has one (R156). -/
def State.askTest (p : PortId) (source : TestSource) (s : State) : State :=
  if s.testQueued p then s
  else { s with pdi := { s.pdi with queue := s.pdi.queue ++ [{ port := p, source := source, time := s.sup.partTime }] } }

/-- The instrument is disconnected; the last line attempt is ABORTED and LINE_TEST_DONE is raised (R165). -/
def State.abortTest (p : PortId) (s : State) : State :=
  ({ s with pdi := { s.pdi with instrument := none } }.modPort p fun q => { q with lineAttempt := some .aborted }).raisePort
    .lineTestDone p

/-- A periodic due time one interval from now (R158, R155). -/
def State.nextPeriodic (s : State) : Nat := satAdd s.sup.partTime (s.cac.params.lineInterval * 3600)

/-- A port's periodic test falls due in STANDBY while the port is enabled (R158). -/
def State.periodicDue (p : PortId) (s : State) : State :=
  if s.cond = .running ∧ s.sup.mode = .standby ∧ (s.port p).profile.enabled ∧ (s.port p).periodicDue ≤ s.sup.partTime then
    (s.askTest p .periodic).modPort p fun q => { q with periodicDue := s.nextPeriodic }
  else s

/-- As STANDBY begins, every enabled port whose due time has passed is asked for at once, in port order (R158). -/
def State.periodicsDue (s : State) : State := s.forPorts allPorts State.periodicDue

/-! ### Lockouts -/

/-- A port is locked: LOCKED with a reason, LOCKOUT raised, and a checkpoint asked for as the mask changes (R133, R163, R47). -/
def State.lock (p : PortId) (why : LockReason) (s : State) : State :=
  (((s.modPort p fun q => { q with lockReason := some why }).enter p .locked).raisePort .lockout p).requestCheckpoint

/-- A port is unlocked: IDLE, no lock reason, trip count 0, and a checkpoint asked for (R162, R166, R47). -/
def State.unlock (p : PortId) (s : State) : State :=
  ((s.modPort p fun q => { q with lockReason := none, switch := { q.switch with trips := 0 } }).enter p .idle).requestCheckpoint

/-! ### The host link -/

/-- A frame or break is discarded: the prior-fault flag is set and LINK_FAULT is raised (R178, R179). The receiver itself is back in
HUNT with the byte or break that ends the frame (`FrameRx.take`), and by the time this command is taken it may be in the next frame:
it is left as it stands (notes/assumptions/15.md). -/
def State.discardFrame (s : State) : State := { s with hlk := { s.hlk with priorFault := true } }.raise .linkFault

/-- The 8-bit reply code: request code + 0x80 (R180); a free value where that is no byte. -/
def replyCode (code : Nat) : Byte :=
  if code < 0x80 then BitVec.ofNat 8 (code + 0x80) else Config.replyCodeBeyond code

/-- The code of a result (R180). -/
def Result.code : Result → Nat
  | .ok => 0x00
  | .okClamped => 0x01
  | .busy => 0x02
  | .badRequest => 0x03
  | .badPort => 0x04
  | .badValue => 0x05
  | .notProvisioned => 0x06
  | .refusedState => 0x07
  | .refusedMode => 0x08
  | .refusedStage => 0x09
  | .refusedAutonomous => 0x0A
  | .refusedLocked => 0x0B

/-- Whether a result carries reply data (R182). -/
def Result.carriesData : Result → Bool
  | .ok => true
  | .okClamped => true
  | _ => false

/-- A reply is built and joins the end of the reply queue; the prior-fault flag is cleared as it is built (R181, R182). -/
def State.answer (code : Nat) (r : Result) (data : List Byte) (s : State) : State :=
  let reply : Reply :=
    { code := replyCode code, status := s.linkStatus, result := r, data := if r.carriesData then data else [] }
  { s with hlk := { s.hlk with replies := s.hlk.replies ++ [reply], priorFault := false } }

/-- What a block answers to a request: the state it leaves, the result, and the reply data. -/
structure Answer where
  state  : State
  result : Result
  data   : List Byte := []

/-- A refusal: the result, and nothing done. -/
def refuse (r : Result) (s : State) : Answer := { state := s, result := r }

/-- A well-formed request frame has arrived. Not running, or after a RESTART: not taken. With 4 replies waiting: discarded
with a fault. In START: BUSY, unless the catalogue says answered. Otherwise the owning block answers (R179, R181, R185, R3). -/
def State.takeRequest (code : Nat) (inStart : Bool) (act : State → Answer) (s : State) : State :=
  if s.cond ≠ .running ∨ s.hlk.restarting then s
  else if 4 ≤ s.hlk.replies.length then s.discardFrame
  else if s.sup.mode = .start ∧ !inStart then s.answer code .busy []
  else (act s).state.answer code (act s).result (act s).data

/-- A request that carries a port, judged for a port above 15 (R42). -/
def withPort (n : Nat) (s : State) (act : PortId → State → Answer) : Answer :=
  match portOf n with
  | some p => act p s
  | none => refuse .badPort s

end Sys2Proof.Machine
end

