-- ==== Sys2Proof/Machine/Arbiter.lean ====
section
/-! DEFINITION. The feed-grant arbiter: levels, the feed queue, the grant set, arbitration and preemption, re-levelling, and
its answers to the effective stage, the credit and the ceilings (R104 to R118, R121), with the trips of the feed switches
(R132, R133). -/

namespace Sys2Proof.Machine

/-! ### Levels and admission -/

/-- The level of a port from its class, call flag and host hold; a DEFERRED port has none (R104). -/
def Port.level (q : Port) : Option Level :=
  match q.profile.cls with
  | .lifeline => some (if q.call then .p1 else .p2)
  | .standard => some (if q.hold then .p3 else if q.call then .p4 else .p5)
  | .deferred => none

/-- The rank of a level, P1 lowest. -/
def Level.rank : Level → Nat
  | .p1 => 1
  | .p2 => 2
  | .p3 => 3
  | .p4 => 4
  | .p5 => 5

/-- Whether a level is P4 or P5, which the credit governs in CONSERVE (R110). -/
def Level.onCredit : Level → Bool
  | .p4 => true
  | .p5 => true
  | _ => false

/-- The levels an effective stage admits; `hold` is the port's host hold (R107). -/
def admits (e : EffStage) (l : Level) (hold : Bool) : Bool :=
  match e with
  | .reserve => l == .p1 || (l == .p2 && hold)
  | .exhausted => false
  | _ => true

/-- The entries eligible for a grant now (R110). -/
def eligible (e : EffStage) (credit : Int) (l : Level) (hold : Bool) : Bool :=
  match e with
  | .standby => true
  | .openStage => true
  | .conserve => !l.onCredit || decide (0 < credit)
  | .reserve => l == .p1 || (l == .p2 && hold)
  | .exhausted => false

/-! ### The queue and the grant set -/

/-- The order of the feed queue: level, then arrival number, then port number (R105, R103). -/
def QueueEntry.before (a b : QueueEntry) : Bool :=
  a.level.rank < b.level.rank
    || (a.level.rank == b.level.rank && (a.arrival < b.arrival || (a.arrival == b.arrival && a.port.val < b.port.val)))

/-- The order of the grant set: grant number, then port number (R106, R103). -/
def Grant.before (a b : Grant) : Bool :=
  a.number < b.number || (a.number == b.number && a.port.val < b.port.val)

/-- A port's queue entry. -/
def Fga.entryOf (g : Fga) (p : PortId) : Option QueueEntry := g.queue.find? fun e => e.port == p

/-- A port's grant record. -/
def Fga.grantOf (g : Fga) (p : PortId) : Option Grant := g.grants.find? fun e => e.port == p

/-- The sum of the granted limits (R106). -/
def Fga.limitSum (g : Fga) : Nat := (g.grants.map (·.limit)).sum

/-- The next number of the order counter, which saturates (R103). -/
def Fga.nextNumber (g : Fga) : Nat := satInc maxU32 g.counter

/-- The queue without a port's entry. -/
def Fga.dropEntry (p : PortId) (g : Fga) : Fga := { g with queue := g.queue.filter fun e => e.port != p }

/-- The grant set without a port's record. -/
def Fga.dropGrant (p : PortId) (g : Fga) : Fga := { g with grants := g.grants.filter fun e => e.port != p }

/-- An entry placed in the queue. -/
def Fga.putEntry (e : QueueEntry) (g : Fga) : Fga := { g with queue := placeBy QueueEntry.before e g.queue }

/-- A record placed in the grant set. -/
def Fga.putGrant (e : Grant) (g : Fga) : Fga := { g with grants := placeBy Grant.before e g.grants }

/-- Whether a port's entry fits now: a slot is free, and its feed limit is within what is left (R106). -/
def State.fits (s : State) (p : PortId) : Bool :=
  decide (s.fga.grants.length < s.cac.params.slotCeiling)
    && decide ((s.port p).profile.feedLimit + s.fga.limitSum ≤ s.cac.params.bankCeiling)

/-- A port joins the queue: QUEUED, a new entry at its level with a new arrival (R105). A port without a level, which no
rule queues, is left as it is. -/
def State.joinQueue (p : PortId) (s : State) : State :=
  match (s.port p).level with
  | some l =>
    let e : QueueEntry := { port := p, level := l, arrival := s.fga.nextNumber, time := s.sup.partTime }
    { s with fga := { s.fga with counter := s.fga.nextNumber }.putEntry e }.enter p .queued
  | none => s

/-- A grant: the entry leaves the queue, the port goes to FED, a record is made, the switch closes and FEED_STATE FED is
asked for (R113, R126). -/
def State.grant (e : QueueEntry) (s : State) : State :=
  let r : Grant :=
    { port := e.port, level := ((s.port e.port).level).getD e.level, limit := (s.port e.port).profile.feedLimit,
      time := s.sup.partTime, number := s.fga.nextNumber }
  (({ s with fga := ({ s.fga with counter := s.fga.nextNumber }.dropEntry e.port).putGrant r }.modPort e.port
      fun q => { q with switch := q.switch.close }).enter e.port .fed).ask e.port (.feedState true)

/-- The first part of a release: the record is removed, the switch opens, FEED_STATE UNFED is asked for (R113, R127). -/
def State.endGrant (p : PortId) (s : State) : State :=
  ({ s with fga := s.fga.dropGrant p }.modPort p fun q => { q with switch := q.switch.openUp }).ask p (.feedState false)

/-- A grant is released and the port goes to a state; no arbitration yet (R113). -/
def State.releaseTo (p : PortId) (st : PortState) (s : State) : State := (s.endGrant p).enter p st

/-- An entry is withdrawn and the port goes to a state (R113). -/
def State.withdrawTo (p : PortId) (st : PortState) (s : State) : State :=
  { s with fga := s.fga.dropEntry p }.enter p st

/-- A grant is released and the port queued again with a new arrival; no arbitration yet (R112, R116, R117). -/
def State.requeue (p : PortId) (s : State) : State := (s.endGrant p).joinQueue p

/-! ### Arbitration -/

/-- The youngest grant at a level; of equal numbers the lower port (R112, R103). -/
def Fga.youngestAt (l : Level) (g : Fga) : Option Grant :=
  (g.grants.filter fun e => e.level == l).foldl
    (fun best e =>
      match best with
      | none => some e
      | some b => if b.number < e.number then some e else some b) none

/-- The next victim of a preemption: the youngest grant at P5, then at P4, then at P3 (R112). -/
def Fga.victim (g : Fga) : Option Grant :=
  (g.youngestAt .p5).orElse fun _ => (g.youngestAt .p4).orElse fun _ => g.youngestAt .p3

/-- Preemption: victims are released and queued again one at a time until the entry fits or none is left (R112). -/
def State.preempt (p : PortId) : Nat → State → State
  | 0, s => s
  | n + 1, s =>
    if s.fits p then s
    else
      match s.fga.victim with
      | some v => State.preempt p n (s.requeue v.port)
      | none => s

/-- The scan of the queue from its place `k` on (R111). `fuel` bounds the entries judged. -/
def State.scan : Nat → Nat → State → State
  | 0, _, s => s
  | fuel + 1, k, s =>
    match s.fga.queue[k]? with
    | none => s
    | some e =>
      if !eligible s.eff s.cac.credit e.level (s.port e.port).hold then State.scan fuel (k + 1) s
      else if s.fits e.port then State.scan fuel k (s.grant e)
      else if e.level = .p1 then
        let t := s.preempt e.port s.fga.grants.length
        if t.fits e.port then State.scan fuel k (t.grant e) else t
      else s

/-- FGA runs its arbitration (R111): every queue entry, and every victim queued behind it, is judged at most once. -/
def State.arbitrate (s : State) : State := s.scan (s.fga.queue.length + s.fga.grants.length + 1) 0

/-- A released grant whose cause names a state: release, then the arbitration on the freed room (R113). -/
def State.releaseAndArbitrate (p : PortId) (st : PortState) (s : State) : State := (s.releaseTo p st).arbitrate

/-- The feed of a port ends: FED is released with an arbitration, QUEUED is withdrawn, any other state is kept (R113). -/
def State.endFeed (p : PortId) (st : PortState) (s : State) : State :=
  match (s.port p).state with
  | .fed => s.releaseAndArbitrate p st
  | .queued => s.withdrawTo p st
  | _ => s

/-! ### Re-levelling -/

/-- R114 without its arbitration; the Bool says that one is due. -/
def State.relevelOne (p : PortId) (s : State) : State × Bool :=
  match (s.port p).state, (s.port p).level with
  | .queued, some l =>
    match s.fga.entryOf p with
    | some e =>
      if e.level = l then (s, false)
      else
        let t := { s with fga := (s.fga.dropEntry p).putEntry { e with level := l } }
        if s.eff = .reserve ∧ !admits s.eff l (s.port p).hold then
          (t.withdrawTo p (s.port p).awakeOrIdle, false)
        else (t, true)
    | none => (s, false)
  | .fed, some l =>
    match s.fga.grantOf p with
    | some g =>
      if g.level = l then (s, false)
      else
        let t := { s with fga := (s.fga.dropGrant p).putGrant { g with level := l } }
        if s.eff = .reserve ∧ !admits s.eff l (s.port p).hold then
          (t.releaseTo p (s.port p).awakeOrIdle, true)
        else if s.eff = .conserve ∧ l.onCredit ∧ s.cac.credit ≤ 0 then (t.requeue p, true)
        else (t, false)
    | none => (s, false)
  | _, _ => (s, false)

/-- A port's entry or grant is re-levelled, with the arbitration where one is due (R114). -/
def State.relevel (p : PortId) (s : State) : State :=
  let r := s.relevelOne p
  if r.2 then r.1.arbitrate else r.1

/-! ### Feed requests -/

/-- Whether a port has a cause to be fed (R107). -/
def Port.hasCause (m : Mode) (q : Port) : Bool :=
  match m with
  | .outage => q.profile.cls != .deferred && (q.call || q.hold || q.profile.feedOnWake || q.cellLow)
  | .standby => q.profile.cls != .deferred && (q.standbyFeed || q.hold)
  | .start => false

/-- Whether the effective stage admits a port's level (R107). -/
def State.admitted (s : State) (p : PortId) : Bool :=
  match (s.port p).level with
  | some l => admits s.eff l (s.port p).hold
  | none => false

/-- A feed request: QUEUED with an arbitration if allowed, AWAKE otherwise; a port QUEUED or FED is re-levelled (R107). -/
def State.feedRequest (p : PortId) (s : State) : State :=
  match (s.port p).state with
  | .queued => s.relevel p
  | .fed => s.relevel p
  | _ =>
    if (s.port p).hasCause s.sup.mode ∧ s.admitted p then (s.joinQueue p).arbitrate
    else s.enter p .awake

/-- The burst length of a port (R108). -/
def State.burstLength (s : State) (p : PortId) : Nat :=
  if (s.port p).profile.cls = .standard ∧ s.eff = .conserve then max 10 ((s.port p).profile.burstLimit / 2)
  else (s.port p).profile.burstLimit

/-- The burst timer starts, or restarts, at the burst length (R108). -/
def State.startBurst (p : PortId) (s : State) : State :=
  s.modPort p fun q => { q with burst := some (s.burstLength p) }

/-! ### The effective stage, the credit and the ceilings -/

/-- Each of a list of ports is released or withdrawn to AWAKE or IDLE (R115, R118). -/
def State.endFeedQuietly (p : PortId) (s : State) : State :=
  match (s.port p).state with
  | .fed => s.releaseTo p (s.port p).awakeOrIdle
  | .queued => s.withdrawTo p (s.port p).awakeOrIdle
  | _ => s

/-- The ports of the grants that satisfy a test, oldest grant first. -/
def Fga.grantPorts (g : Fga) (test : Grant → Bool) : List PortId := (g.grants.filter test).map (·.port)

/-- The ports of the entries that satisfy a test, in queue order. -/
def Fga.entryPorts (g : Fga) (test : QueueEntry → Bool) : List PortId := (g.queue.filter test).map (·.port)

/-- Every P4 and P5 grant is released and queued again with a new arrival, oldest grant first (R115, R116). -/
def State.requeueOnCredit (s : State) : State := s.forPorts (s.fga.grantPorts fun g => g.level.onCredit) State.requeue

/-- Every grant and entry whose level the effective stage does not admit is released or withdrawn (R115). -/
def State.dropNotAdmitted (s : State) : State :=
  s.forPorts
    ((s.fga.grantPorts fun g => !admits s.eff g.level (s.port g.port).hold)
      ++ s.fga.entryPorts fun e => !admits s.eff e.level (s.port e.port).hold)
    State.endFeedQuietly

/-- A worsening of the effective stage, which already stands at its new value (R115). -/
def State.worsen (s : State) : State :=
  let t :=
    match s.eff with
    | .conserve => if s.cac.credit ≤ 0 then s.requeueOnCredit else s
    | .reserve => s.dropNotAdmitted
    | .exhausted => s.dropNotAdmitted
    | _ => s
  let released :=
    match s.eff with
    | .conserve => decide (s.cac.credit ≤ 0) && s.fga.grants.any fun g => g.level.onCredit
    | .reserve => s.fga.grants.any fun g => !admits s.eff g.level (s.port g.port).hold
    | .exhausted => s.fga.grants.any fun g => !admits s.eff g.level (s.port g.port).hold
    | _ => false
  if released then t.arbitrate else t

/-- A new effective stage is handed to WKS and FGA. Within OUTAGE a worsening acts by R115, an easing runs the arbitration,
and the wake list follows R88; to and from STANDBY the blocks act by their outage rules (R39). -/
def State.effChanged (old : EffStage) (s : State) : State :=
  if s.eff = old ∨ old = .standby ∨ s.eff = .standby then s
  else if old.severity < s.eff.severity then s.rescheduleWakes.worsen
  else s.rescheduleWakes.arbitrate

/-- The credit notices of R31. -/
inductive CreditNotice where
  | positive
  | spent
  deriving DecidableEq, Repr

/-- A credit notice reaches FGA (R116). -/
def State.creditNotice (n : CreditNotice) (s : State) : State :=
  match n with
  | .positive => s.arbitrate
  | .spent => if s.eff = .conserve then s.requeueOnCredit.arbitrate else s

/-- The next grant released for a lowered ceiling: lowest level first, the youngest within a level (R117). -/
def Fga.lowestGrant (g : Fga) : Option Grant :=
  (g.victim).orElse fun _ => (g.youngestAt .p2).orElse fun _ => g.youngestAt .p1

/-- Whether both ceilings hold (R117). -/
def State.withinCeilings (s : State) : Bool :=
  decide (s.fga.grants.length ≤ s.cac.params.slotCeiling) && decide (s.fga.limitSum ≤ s.cac.params.bankCeiling)

/-- Grants are released and queued again until both ceilings hold (R117). -/
def State.lowerTo : Nat → State → State
  | 0, s => s
  | n + 1, s =>
    if s.withinCeilings then s
    else
      match s.fga.lowestGrant with
      | some g => State.lowerTo n (s.requeue g.port)
      | none => s

/-- The ceilings, already stored, have changed from `old`: a lowering of either, or a raising (R117). -/
def State.ceilingsChanged (old : AccountParams) (s : State) : State :=
  let new := s.cac.params
  if new.slotCeiling < old.slotCeiling ∨ new.bankCeiling < old.bankCeiling then
    (s.lowerTo s.fga.grants.length).arbitrate
  else if old.slotCeiling < new.slotCeiling ∨ old.bankCeiling < new.bankCeiling then s.arbitrate
  else s

/-! ### Supervision to AUTONOMOUS -/

/-- The ports that have a host hold, in port order. -/
def State.heldPorts (s : State) : List PortId := allPorts.filter fun p => (s.port p).hold

/-- A port whose hold was cleared, without its arbitration: it is re-levelled, and in RESERVE a grant or entry that rested on
the hold is released or withdrawn though its level stays P2 (R114, R121, R110). -/
def State.relevelCleared (p : PortId) (s : State) : State × Bool :=
  if s.eff = .reserve ∧ !s.admitted p then (s.endFeedQuietly p, (s.port p).state == .fed) else s.relevelOne p

/-- One held port re-levelled, carrying whether an arbitration is due (R114, R121). -/
def State.relevelCarry (acc : State × Bool) (p : PortId) : State × Bool :=
  let r := acc.1.relevelCleared p
  (r.1, acc.2 || r.2)

/-- The host hold of every port that has one is cleared; each that is enabled has its burst timer started; each QUEUED or
FED one is re-levelled, in port order, with one arbitration at the end (R121, R113; notes/assumptions/10.md). -/
def State.clearHolds (s : State) : State :=
  let held := s.heldPorts
  let t := s.mapPorts fun p (q : Port) =>
    if q.hold then
      { q with hold := false, burst := if q.profile.enabled then some (s.burstLength p) else q.burst }
    else q
  let r := held.foldl State.relevelCarry (t, false)
  if r.2 then r.1.arbitrate else r.1

/-- Two hand-overs that reach a block together: either may be taken first. Where the two orders end in different states,
a free value of Config takes the choice (R115, R121; notes/assumptions/9.md). -/
def State.eitherOrder (f g : State → State) (s : State) : State :=
  let a := g (f s)
  let b := f (g s)
  if a = b then a
  else if Config.firstTakenFirst s.freeUses then { a with freeUses := s.freeUses + 1 }
  else { b with freeUses := s.freeUses + 1 }

/-! ### Trips -/

/-- The backoff after the n-th consecutive trip (R132). -/
def backoffOf : Nat → Nat
  | 1 => 5
  | 2 => 20
  | _ => 80

/-- A closed switch trips. The trip is recorded and TRIP raised, the grant ends, and the port goes to RETRY with its backoff,
or at the fourth consecutive trip to LOCKED with a line test asked for; then FGA arbitrates (R132, R133). -/
def State.trip (kind : TripKind) (p : PortId) (s : State) : State :=
  let before := (s.port p).switch.trips
  let t := ((s.modPort p fun q =>
      { q with
        tripKind := some kind
        tripsTotal := satInc 65535 q.tripsTotal
        switch := { q.switch.openUp with trips := satInc 4 q.switch.trips } }).raisePort .trip p).endGrant p
  if before < 3 then
    ((t.modPort p fun q => { q with switch := { q.switch with backoff := some (backoffOf (before + 1)) } }).enter p .retry).arbitrate
  else ((t.lock p .repeatedTrip).askTest p .repeatedTrip).arbitrate

end Sys2Proof.Machine
end

