-- ==== Sys2Proof/Machine/Cycle.lean ====
section
/-! DEFINITION. The outage cycle: what every block does at a reset, at the end of START, at outage begin and at outage end
(R1 to R9, R36, R37, R87, R89, R118, R137, R150, R152, R169, R173, R176, R190), and the stage changes (R34, R35). -/

namespace Sys2Proof.Machine

/-! ### Resets -/

/-- Every block at its reset values. Kept: the store's contents, the pins, the straps as sampled, and the model's own fields
(R1, R2, R168). -/
def State.afterReset (s : State) : State :=
  { State.reset with
    cond := .running
    pins := s.pins
    straps := s.straps
    nvs := { resetNvs with area := s.nvs.area, ring := s.nvs.ring }
    freeUses := s.freeUses
    pending := s.pending }

/-- A power-on reset: the straps are sampled from their pins (R2). -/
def State.powerOnReset (s : State) : State :=
  { s with straps := { lockHigh := s.pins.lock, speedHigh := s.pins.speed } }.afterReset

/-- A restart reset: the straps keep the values sampled before (R2). -/
def State.restartReset (s : State) : State := s.afterReset

/-- The part is stopped or held: everything but the store's contents is lost, and stands at what the next reset gives it
(R1; notes/assumptions/6.md). -/
def State.lose (c : Supply) (s : State) : State := { s.afterReset with cond := c }

/-! ### Stage changes -/

/-- The stage is set, with STAGE_CHANGE and a checkpoint when it changes; handing on the effective stage is left to the
caller (R34). -/
def State.setStage (st : Stage) (s : State) : State :=
  if s.cac.stage = st then s
  else ({ s with cac := { s.cac with stage := st } }.raise .stageChange).requestCheckpoint

/-- Bank-low forcing at CAC: EXHAUSTED at once, promotion count 0, and the effective stage handed on (R35). -/
def State.forceExhausted (s : State) : State :=
  ({ s with cac := { s.cac with promotion := 0 } }.setStage .exhausted).effChanged s.eff

/-! ### Outage begin -/

/-- CAC at outage begin (R36, R26, R27). -/
def State.cacBegin (s : State) : State :=
  { s with cac := { s.cac with credit := 0, promotion := 0, candidate := none, lowBankRun := 0, float := .idle } }

/-- WKS at outage begin: an entry for each enabled port with an interval, due at E0 + 30 + 4 × port number (R87). -/
def State.stagger (s : State) : State :=
  { s with wakes := [] }.forPorts allPorts fun p t =>
    if (t.port p).profile.enabled ∧ (t.interval p).isSome then
      t.putWake p (satAdd s.sup.outageTime (30 + 4 * p.val))
    else t

/-- FGA at outage begin: the standby feeds not also held end, every flag is cleared, and one arbitration follows (R118). -/
def State.fgaBegin (s : State) : State :=
  let ended := allPorts.filter fun p => (s.port p).standbyFeed && !(s.port p).hold
  ((s.forPorts ended State.endFeedQuietly).mapPorts fun _ (q : Port) => { q with standbyFeed := false }).arbitrate

/-- CTU ends a port's test without a verdict: no timer, no duration, no test (R149 to R151). -/
def Port.clearTest (q : Port) : Port :=
  { q with cell := { q.cell with phase := .noTest, duration := none, report := none } }

/-- CTU at outage begin, for one port: a test under way is aborted with a cancel order (R150). -/
def State.ctuBeginOne (p : PortId) (s : State) : State :=
  if (s.port p).state = .cellTest then
    ((s.modPort p Port.clearTest).ask p (.cellOrder 0)).enter p .idle
  else s

/-- CTU at outage begin (R150). -/
def State.ctuBegin (s : State) : State := s.forPorts allPorts State.ctuBeginOne

/-- HLK at outage begin: SUPERVISED, expected token 1, a long window (R190). -/
def State.hlkBegin (s : State) : State :=
  { s with hlk := { s.hlk with supervision := .supervised, token := 1, window := .long 300 } }

/-- The outage begin is handed to every block (R7). -/
def State.handBegin (s : State) : State :=
  s.cacBegin.hlkBegin.stagger.fgaBegin.ctuBegin.startCheckpointTimer

/-- SUP enters OUTAGE with E at its starting value; the watch starts if the bank is already low (R5, R7, R12). -/
def State.supBegin (e0 : Nat) (s : State) : State :=
  { s with sup := { s.sup with
      mode := .outage, outageTime := e0, lossConf := none, returnConf := none, forced := false
      bankWatch := if s.pins.bankLow then some 10 else none } }

/-- An outage begins: mode and E, OUTAGE_BEGIN unless it is resumed, a checkpoint, and the begin handed on (R5, R7). -/
def State.outageBegin (e0 : Nat) (resumed : Bool) (s : State) : State :=
  let t := s.supBegin e0
  (if resumed then t else t.raise .outageBegin).requestCheckpoint.handBegin

/-! ### Outage end -/

/-- The float confirmation starts if FLOAT is high as STANDBY begins (R27). -/
def State.startFloat (s : State) : State :=
  if s.pins.float then { s with cac := { s.cac with float := .running 60 } } else s

/-- CAC at outage end (R37, R26). -/
def State.cacEnd (s : State) : State :=
  let t := s.setStage .noStage
  { t with cac := { t.cac with credit := 0, promotion := 0, candidate := none, lowBankRun := 0 } }.startFloat

/-- WKS at outage end: the list is emptied and every WAKING port goes to IDLE (R89). -/
def State.wksEnd (s : State) : State :=
  State.mapPorts (fun _ q => if q.state = .waking then { q with state := .idle, checkin := none } else q)
    { s with wakes := [] }

/-- FGA at outage end: grants released, entries withdrawn, holds cleared, burst timers stopped (R118). -/
def State.fgaEnd (s : State) : State :=
  (s.forPorts allPorts State.endFeedQuietly).mapPorts fun _ (q : Port) => { q with hold := false, burst := none }

/-- FSW at outage end: every port in RETRY goes to IDLE with its backoff idle (R137). -/
def State.fswEnd (s : State) : State :=
  s.mapPorts fun _ (q : Port) =>
    if q.state = .retry then { q with state := .idle, switch := { q.switch with backoff := none } } else q

/-- PTB at outage end: the cell-low marks are cleared (R46). -/
def State.ptbEnd (s : State) : State := s.mapPorts fun _ (q : Port) => { q with cellLow := false }

/-- CTU at outage end: the recharge hold (R152). -/
def State.ctuEnd (s : State) : State :=
  s.mapPorts fun _ (q : Port) => { q with cell := { q.cell with due := max q.cell.due (satAdd s.sup.partTime 21600) } }

/-- HLK at outage end: SUPERVISED, no window, expected token 1 (R190). -/
def State.hlkEnd (s : State) : State :=
  { s with hlk := { s.hlk with supervision := .supervised, token := 1, window := .noWindow } }

/-- The outage end is handed to every block (R9), and STANDBY begins for the periodic line tests (R158). -/
def State.handEnd (s : State) : State :=
  s.cacEnd.hlkEnd.wksEnd.fgaEnd.fswEnd.ptbEnd.ctuEnd.startCheckpointTimer.periodicsDue

/-- SUP enters STANDBY with a last outage duration (R4, R9). -/
def State.supEnd (duration : Nat) (s : State) : State :=
  { s with sup := { s.sup with
      mode := .standby, outageTime := 0, lossConf := none, returnConf := none, bankWatch := none, forced := false
      lastOutage := duration } }

/-- An outage ends: the duration recorded, the mode, OUTAGE_END, a checkpoint, and the end handed on (R4, R9). -/
def State.outageEnd (duration : Nat) (s : State) : State :=
  ((s.supEnd duration).raise .outageEnd).requestCheckpoint.handEnd

/-! ### The end of START -/

/-- Whether a slot holds a valid checkpoint with a sequence number (R176). -/
def slotCarries (ring : Vector (Option Checkpoint) 32) (n : Nat) (i : Fin 32) : Bool :=
  match ring[i.val] with
  | some c => c.sequence == n
  | none => false

/-- The slot after a slot in ring order, slot 0 following slot 31 (R174, R176). -/
def slotAfter (i : Fin 32) : Fin 32 := ⟨(i.val + 1) % 32, Nat.mod_lt _ (by decide)⟩

/-- The 32 slots in order. -/
def allSlots : List (Fin 32) :=
  [0, 1, 2, 3, 4, 5, 6, 7, 8, 9, 10, 11, 12, 13, 14, 15, 16, 17, 18, 19, 20, 21, 22, 23, 24, 25, 26, 27, 28, 29, 30, 31]

/-- The highest sequence number of the valid slots, none when no slot is valid (R176). -/
def highestSequence (ring : Vector (Option Checkpoint) 32) : Option Nat :=
  allSlots.foldl
    (fun best i =>
      match ring[i.val], best with
      | some c, some b => some (max b c.sequence)
      | some c, none => some c.sequence
      | none, _ => best) none

/-- The slot of the recovered checkpoint: the highest number; of several that carry it, those whose next slot does not, or
all if there are none of these, and of them the lowest slot (R176). -/
def recoveredSlot (ring : Vector (Option Checkpoint) 32) : Option (Fin 32) :=
  match highestSequence ring with
  | none => none
  | some n =>
    let carriers := allSlots.filter (slotCarries ring n)
    match carriers.find? fun i => !slotCarries ring n (slotAfter i) with
    | some i => some i
    | none => carriers.head?

/-- The recovered checkpoint and its slot (R176). -/
def recoveredCheckpoint (ring : Vector (Option Checkpoint) 32) : Option (Fin 32 × Checkpoint) :=
  match recoveredSlot ring with
  | some i => (ring[i.val]).map fun c => (i, c)
  | none => none

/-- The factory contents that a bad area loads (R169). -/
def factoryArea : AreaContents where
  profiles := Vector.ofFn fun _ => defaultProfile
  params   := defaultParams
  enables  := BitVec.allOnes 17

/-- The runtime copies are loaded from an area, and the periodic due times formed with its interval (R169, R155). -/
def State.loadArea (a : AreaContents) (s : State) : State :=
  { s with cac := { s.cac with params := a.params }, hlk := { s.hlk with enables := a.enables } }.mapPorts fun p (q : Port) =>
    { q with profile := a.profiles[p.val], periodicDue := a.params.lineInterval * 3600 }

/-- The profile area is handed over: GOOD, or BAD with the defaults and STORE_FAULT (R169, R176). -/
def State.recoverArea (read : Bool) (s : State) : State :=
  match (if read then s.nvs.area else none) with
  | some a => { s with nvs := { s.nvs with areaAtStart := .good } }.loadArea a
  | none => ({ s with nvs := { s.nvs with areaAtStart := .bad } }.loadArea factoryArea).raise .storeFault

/-- Q_limit = (C × 3,600,000 / 100) × P (R24). -/
def limitOf (g : AccountParams) : Nat := g.ratedCapacity * 3600000 / 100 * g.depthLimit

/-- CAC settles Q_limit and Q_used from the recovered checkpoint (R17). -/
def State.settleAccount (cp : Option Checkpoint) (s : State) : State :=
  let limit := limitOf s.cac.params
  match cp with
  | some c => { s with cac := { s.cac with qLimit := limit, qUsed := min c.qUsed limit } }
  | none =>
    { s with cac := { s.cac with qLimit := limit, qUsed := limit / 2, uncertain := true } }.raise .accountUncertain

/-- A port takes its state at the end of START (R44, R63). -/
def Port.settle (mask : PortMask) (p : PortId) (q : Port) : Port :=
  if q.profile.enabled then
    if mask.getLsbD p.val then { q with state := .locked, lockReason := some .recovered, rx := .hunt }
    else { q with state := .idle, rx := .hunt }
  else { q with state := .off }

/-- The ports take their states (R44). -/
def State.settlePorts (mask : PortMask) (s : State) : State := s.mapPorts (Port.settle mask)

/-- STANDBY begins at the end of START, with no outage to close (R4, R27, R158, R173). -/
def State.standbyBegins (s : State) : State :=
  ({ s with sup := { s.sup with mode := .standby } }.startFloat).startCheckpointTimer.periodicsDue

/-- SUP samples MAINS and decides the mode that follows START (R4, R5). -/
def State.settleMode (cp : Option Checkpoint) (s : State) : State :=
  match s.pins.mains, cp with
  | true, some c =>
    match c.mode with
    | .outage => s.outageEnd c.outageTime
    | .standby => s.standbyBegins
  | true, none => s.standbyBegins
  | false, some c =>
    match c.mode with
    | .outage => s.outageBegin c.outageTime true
    | .standby => s.outageBegin 0 false
  | false, none => s.outageBegin 0 false

/-- The store's position in the ring is settled; an unread ring holds no valid slot (R176). -/
def State.settleRing (read : Bool) (cp : Option (Fin 32 × Checkpoint)) (s : State) : State :=
  match cp with
  | some (i, c) => { s with nvs := { s.nvs with lastSlot := i.val, highSequence := c.sequence, ringUnread := !read } }
  | none => { s with nvs := { s.nvs with lastSlot := 31, highSequence := 0, ringUnread := !read } }

/-- Recovery ends: both areas are handed over, the account, the ports and the mode are settled, and the store becomes IDLE or
begins the checkpoint asked for (R176, R3). -/
def State.recover (areaRead ringRead : Bool) (s : State) : State :=
  if s.cond = .running ∧ s.sup.mode = .start ∧ s.nvs.activity = .recovering then
    let found := if ringRead then recoveredCheckpoint s.nvs.ring else none
    let cp := found.map (·.2)
    let mask := match cp with
      | some c => c.lockouts
      | none => 0
    let t := (((s.recoverArea areaRead).settleRing ringRead found).settleAccount cp).settlePorts mask
    let u := if areaRead && ringRead then t else t.raise .storeFault
    (u.settleMode cp).nextOperation
  else s

end Sys2Proof.Machine
end

