-- ==== Sys2Proof/Machine/Replies.lean ====
section
/-! DEFINITION. The reply data of the requests, byte by byte (R14, R40, R59, R76, R177, R182 to R184, R188), and the reply
frame (R180). Numbers are sent most significant byte first in the smallest width that holds their stated range. A mark or a
yes-no figure is sent as 1 for set or yes and 0 for clear or no, a level as 1 for high and 0 for low
(notes/assumptions/11.md). -/

namespace Sys2Proof.Machine

/-! ### Encodings (R182) -/

/-- A number in one byte. -/
def u8 (n : Nat) : List Byte := [BitVec.ofNat 8 n]

/-- A number in two bytes, most significant first. -/
def u16 (n : Nat) : List Byte := [BitVec.ofNat 8 (n / 256), BitVec.ofNat 8 n]

/-- A number in four bytes, most significant first. -/
def u32 (n : Nat) : List Byte :=
  [BitVec.ofNat 8 (n / 16777216), BitVec.ofNat 8 (n / 65536), BitVec.ofNat 8 (n / 256), BitVec.ofNat 8 n]

/-- A kind set in three bytes (R187), most significant first (DEDUCED, notes/assumptions/13.md). -/
def u24 (n : Nat) : List Byte := [BitVec.ofNat 8 (n / 65536), BitVec.ofNat 8 (n / 256), BitVec.ofNat 8 n]

/-- A signed figure in two's complement, two bytes. -/
def s16 (i : Int) : List Byte := u16 (BitVec.ofInt 16 i).toNat

/-- A signed figure in two's complement, four bytes. -/
def s32 (i : Int) : List Byte := u32 (BitVec.ofInt 32 i).toNat

/-- A mark, a yes-no figure or a level (notes/assumptions/11.md). -/
def flag (b : Bool) : List Byte := [if b then 1 else 0]

/-- A presence byte, then the value or as many zero bytes. -/
def present {α : Type} (width : Nat) (enc : α → List Byte) : Option α → List Byte
  | some x => 1#8 :: enc x
  | none => 0#8 :: List.replicate width 0#8

/-- A port mask in two bytes. -/
def maskBytes (m : PortMask) : List Byte := u16 m.toNat

/-! Enumerations by position in the list where the manual first gives their values (R182). -/

def Mode.code : Mode → Nat
  | .start => 0
  | .standby => 1
  | .outage => 2

def Stage.code : Stage → Nat
  | .noStage => 0
  | .openStage => 1
  | .conserve => 2
  | .reserve => 3
  | .exhausted => 4

def EffStage.code : EffStage → Nat
  | .standby => 0
  | .openStage => 1
  | .conserve => 2
  | .reserve => 3
  | .exhausted => 4

/-- As in SET_PROFILE (R182, R51). -/
def ServiceClass.code : ServiceClass → Nat
  | .lifeline => 1
  | .standard => 2
  | .deferred => 3

def PortState.code : PortState → Nat
  | .off => 0
  | .idle => 1
  | .waking => 2
  | .awake => 3
  | .queued => 4
  | .fed => 5
  | .cellTest => 6
  | .lineTest => 7
  | .retry => 8
  | .locked => 9

def TermState.code : TermState → Nat
  | .unknown => 0
  | .sleep => 1
  | .awake => 2
  | .call => 3

def LockReason.code : LockReason → Nat
  | .repeatedTrip => 0
  | .lineFault => 1
  | .recovered => 2

def CellVerdict.code : CellVerdict → Nat
  | .good => 0
  | .weak => 1
  | .failed => 2
  | .noResponse => 3
  | .invalid => 4

def LineVerdict.code : LineVerdict → Nat
  | .normal => 0
  | .openPair => 1
  | .crossed => 2
  | .pairShort => 3
  | .shortHigh => 4
  | .shortLow => 5
  | .indeterminate => 6

def LineAttempt.code : LineAttempt → Nat
  | .verdict v => v.code
  | .aborted => 7

def TripKind.code : TripKind → Nat
  | .short => 0
  | .overload => 1

def Level.code : Level → Nat
  | .p1 => 0
  | .p2 => 1
  | .p3 => 2
  | .p4 => 3
  | .p5 => 4

def TestSource.code : TestSource → Nat
  | .host => 0
  | .missedCheckin => 1
  | .repeatedTrip => 2
  | .periodic => 3

/-- A previous state is a port state (R155, R59; notes/assumptions/12.md). -/
def Borrowed.code : Borrowed → Nat
  | .fromIdle => PortState.idle.code
  | .fromLocked => PortState.locked.code

def FloatConf.code : FloatConf → Nat
  | .idle => 0
  | .running _ => 1
  | .confirmed => 2

def Supervision.code : Supervision → Nat
  | .supervised => 0
  | .autonomous => 1

/-- Long, normal, none, as R183 lists them. -/
def Window.code : Window → Nat
  | .long _ => 0
  | .normal _ _ => 1
  | .noWindow => 2

def Activity.code : Activity → Nat
  | .idle => 0
  | .recovering => 1
  | .writingCheckpoint _ => 2
  | .saving _ => 3

def AreaState.code : AreaState → Nat
  | .good => 0
  | .bad => 1

def SaveResult.code : SaveResult → Nat
  | .noSave => 0
  | .done => 1
  | .failed => 2

/-! ### GET_IDENTITY, GET_STATUS, GET_ACCOUNT -/

/-- R183: part code, silicon revision, number of ports, the LOCK and SPEED straps. That a strap is sent as 1 for high and 0 for
low is the model's choice: no list gives it (notes/assumptions/11.md). -/
def State.identityData (s : State) : List Byte :=
  u8 Config.partCode ++ u8 Config.siliconRevision ++ u8 16 ++ flag s.straps.lockHigh ++ flag s.straps.speedHigh

/-- R14, in its order. That the level of MAINS is sent as 1 for high and 0 for low is the model's choice: no list gives it
(notes/assumptions/11.md). -/
def State.supData (s : State) : List Byte :=
  u8 s.sup.mode.code ++ u32 s.sup.partTime ++ u32 s.sup.outageTime ++ u32 s.sup.lastOutage ++ flag s.pins.mains
    ++ present 2 u16 s.sup.lossConf ++ present 1 u8 s.sup.returnConf ++ present 1 u8 s.sup.bankWatch
    ++ flag s.sup.forced

/-- R177, in its order. -/
def State.nvsData (s : State) : List Byte :=
  u8 s.nvs.activity.code ++ flag s.nvs.waitingSave ++ flag s.nvs.pendingCp ++ u8 s.nvs.saveResult.code
    ++ u8 s.nvs.areaAtStart.code ++ u8 s.nvs.lastSlot ++ u32 s.nvs.highSequence ++ present 2 u16 s.nvs.cpTimer

/-- Whether the early bound of a normal window has passed (R190). A long window and none have no early bound, and R183 does not
say what the figure reads then: the model's choice is no (notes/assumptions/25.md). -/
def Window.earlyPassed : Window → Bool
  | .normal _ early => early == 0
  | _ => false

/-- The remaining whole seconds of a window (R190). -/
def Window.remaining : Window → Option Nat
  | .long n => some n
  | .normal n _ => some n
  | .noWindow => none

/-- The presence figures of GET_STATUS (R183). -/
def State.presenceData (s : State) : List Byte :=
  u8 s.hlk.supervision.code ++ u8 s.hlk.token ++ u8 s.hlk.window.code ++ flag s.hlk.window.earlyPassed
    ++ present 2 u16 s.hlk.window.remaining

/-- R183: SUP, the stages, NVS, the presence figures, and the replies waiting, counting this one. -/
def State.statusData (s : State) : List Byte :=
  s.supData ++ u8 s.cac.stage.code ++ u8 s.eff.code ++ s.nvsData ++ s.presenceData ++ u8 (s.hlk.replies.length + 1)

/-- The fifteen parameters as SET_ACCOUNT_PARAMS carries them (R180, R21). -/
def paramsData (g : AccountParams) : List Byte :=
  u16 g.ratedCapacity ++ u8 g.depthLimit ++ u8 g.targetDuration ++ u16 g.callCurrent ++ u16 g.reserveTime
    ++ u16 g.cabinetCurrent ++ u16 g.conserveLimit ++ u8 g.slotCeiling ++ u16 g.bankCeiling ++ u16 g.emptyThreshold
    ++ u16 g.cellWeakVolt ++ u16 g.cellFailVolt ++ u16 g.cellWeakRes ++ u16 g.cellFailRes ++ u8 g.lineInterval

/-- R40, in its order. -/
def State.accountData (s : State) : List Byte :=
  let fig (f : Figures → Nat) := s.cac.figures.map f
  paramsData s.cac.params ++ u32 s.cac.qLimit ++ u32 s.cac.qUsed
    ++ present 2 u16 (fig (·.volts)) ++ present 2 s16 (s.cac.figures.map (·.amps))
    ++ present 1 flag (s.cac.figures.map (·.wasHeld))
    ++ u8 s.cac.invalidRun ++ flag s.cac.uncertain ++ u8 s.cac.lowBankRun ++ u8 s.cac.float.code
    ++ present 4 u32 (fig (·.usable)) ++ present 4 u32 (fig (·.reserve)) ++ present 4 u32 (fig (·.spendable))
    ++ present 4 u32 (fig (·.horizon)) ++ present 2 u16 (fig (·.allowance)) ++ present 4 u32 (fig (·.cap))
    ++ present 2 u16 (fig (·.drawn)) ++ present 1 u8 (fig (·.lifelines))
    ++ s32 s.cac.credit ++ u8 s.cac.stage.code ++ present 1 u8 (s.cac.candidate.map Stage.code)
    ++ u8 s.cac.promotion ++ u8 s.eff.code

/-! ### GET_PORT -/

/-- The seven profile fields as SET_PROFILE carries them (R180, R51, R59). -/
def profileData (q : Profile) : List Byte :=
  flag q.enabled ++ u8 q.cls.code ++ u32 q.wakeInterval ++ u16 q.burstLimit ++ flag q.feedOnWake ++ u16 q.feedLimit
    ++ u8 q.cellInterval

/-- The six identity bytes as received (R62). -/
def identityBytes (i : BitVec 48) : List Byte := u16 (i.toNat / 4294967296) ++ u32 i.toNat

/-- A cell record (R48). -/
def cellRecordData (c : CellRecord) : List Byte :=
  u8 c.verdict.code ++ present 2 u16 (c.report.map (·.vOpen)) ++ present 2 u16 (c.report.map (·.vLoaded))
    ++ present 2 u16 (c.report.map (·.iLoad)) ++ present 2 u16 c.resistance ++ u32 c.time

/-- A line record (R49). -/
def lineRecordData (l : LineRecord) : List Byte := u8 l.verdict.code ++ u32 l.time

/-- The runtime fields in the order of R43 (R59). -/
def runtimeData (q : Port) : List Byte :=
  u8 q.state.code ++ u8 q.term.code ++ present 6 identityBytes q.identity ++ present 2 u16 q.cellVolts
    ++ flag q.cellLow ++ flag q.hold ++ flag q.standbyFeed ++ present 2 u16 q.burst ++ present 1 u8 q.silence
    ++ present 1 u8 q.checkin ++ u8 q.missed ++ present 1 u8 (q.lockReason.map LockReason.code)
    ++ present 17 cellRecordData q.cellRecord ++ present 5 lineRecordData q.lineRecord
    ++ present 1 u8 (q.lineAttempt.map LineAttempt.code)
    ++ u16 q.counters.good ++ u16 q.counters.corrected ++ u16 q.counters.uncorrectable ++ u16 q.counters.checkFailed
    ++ u16 q.counters.cutOff ++ present 1 u8 (q.tripKind.map TripKind.code) ++ u16 q.tripsTotal

/-- The remembered previous state of a port under test (R155). -/
def State.borrowedOf (s : State) (p : PortId) : Option Borrowed :=
  match s.pdi.instrument with
  | some t => if t.port = p then some t.borrowed else none
  | none => none

/-- R59, in its order. -/
def State.portData (s : State) (p : PortId) : List Byte :=
  let q := s.port p
  profileData q.profile ++ runtimeData q ++ flag q.call ++ flag (s.locked p)
    ++ present 4 u32 (s.wakeOf p)
    ++ present 9 (fun e : QueueEntry => u8 e.level.code ++ u32 e.arrival ++ u32 e.time) (s.fga.entryOf p)
    ++ present 7 (fun g : Grant => u16 g.limit ++ u8 g.level.code ++ u32 g.time) (s.fga.grantOf p)
    ++ u8 q.switch.trips ++ present 1 u8 q.switch.backoff ++ u16 q.switch.average
    ++ flag (s.testQueued p) ++ present 1 u8 ((s.borrowedOf p).map Borrowed.code) ++ u32 q.periodicDue
    ++ u32 q.cell.due ++ flag q.mailbox.held.isSome ++ flag q.mailbox.overrun

/-! ### GET_NOTICE, GET_SCHEDULE, GET_EVENTS -/

/-- The raw code of a notice OTHER: every code but the six named ones (R62, R74). -/
def Notice.rawCode (n : Notice) : Option Byte := if n.code = 0#8 ∨ 6 < n.code.toNat then some n.code else none

/-- R76: whether the mailbox was full, the code, the raw code for OTHER, the detail and the arrival, then the overrun flag. The code
is sent as it was received (notes/assumptions/13.md). -/
def mailboxData (m : Mailbox) : List Byte :=
  present 8 (fun n : Notice => [n.code] ++ present 1 (fun c => [c]) n.rawCode ++ [n.detail] ++ u32 n.time) m.held
    ++ flag m.overrun

/-- A fixed number of places, the unused ones filled (R184). -/
def places {α : Type} (n : Nat) (enc : α → List Byte) (unused : List Byte) (xs : List α) : List Byte :=
  ((xs.take n).map enc).flatten ++ (List.replicate (n - xs.length) unused).flatten

/-- An unused place: port 0xFF and zeros (R184). -/
def unusedPlace (width : Nat) : List Byte := 0xFF#8 :: List.replicate width 0#8

/-- Part 0: the wake list (R184). -/
def State.wakeListData (s : State) : List Byte :=
  u8 s.wakes.length
    ++ places 16 (fun e : WakeEntry => u8 e.port.val ++ u32 e.due) (unusedPlace 4) s.wakes

/-- Part 1: the feed queue and the grant set (R184). -/
def State.feedData (s : State) : List Byte :=
  u8 s.fga.queue.length
    ++ places 16 (fun e : QueueEntry => u8 e.port.val ++ u8 e.level.code ++ u32 e.arrival ++ u32 e.time)
        (unusedPlace 9) s.fga.queue
    ++ u8 s.fga.grants.length ++ u8 (allPorts.countP fun p => (s.port p).state == .fed) ++ u16 s.fga.limitSum
    ++ places 8 (fun g : Grant => u8 g.port.val ++ u8 g.level.code ++ u16 g.limit ++ u32 g.time)
        (unusedPlace 7) s.fga.grants

/-- Part 2: the test queue and the instrument (R184). -/
def State.testData (s : State) : List Byte :=
  u8 s.pdi.queue.length
    ++ places 16 (fun e : TestEntry => u8 e.port.val ++ u8 e.source.code ++ u32 e.time) (unusedPlace 5) s.pdi.queue
    ++ flag s.pdi.instrument.isSome
    ++ (match s.pdi.instrument with
        | some t => u8 t.port.val
        | none => [0xFF#8])

/-- The nine masks in priority order (R188, R189). -/
def masksData (m : PortMasks) : List Byte := (portEvents.map fun k => maskBytes (maskOf m k)).flatten

/-- The first event: its priority number and its port, 0xFF for none (R188). -/
def firstEventData (h : Hlk) : List Byte :=
  match firstEvent h with
  | none => [0#8, 0xFF#8]
  | some (n, some p) => u8 n ++ u8 p.val
  | some (n, none) => u8 n ++ [0xFF#8]

/-- R188, in its order. -/
def State.eventsData (s : State) : List Byte :=
  u24 s.hlk.flags.toNat ++ u24 s.hlk.enables.toNat ++ masksData s.hlk.masks ++ firstEventData s.hlk

/-! ### The frame (R180) -/

/-- The byte that makes the 8-bit sum of a frame's length byte, body and check byte 0. -/
def checkByte (bytes : List Byte) : Byte := 0 - bytes.foldl (· + ·) 0

/-- The body of a reply: code, link status, result, data. -/
def Reply.body (r : Reply) : List Byte := r.code :: r.status :: BitVec.ofNat 8 r.result.code :: r.data

/-- The bytes of a reply as TXD sends them. -/
def Reply.frame (r : Reply) : List Byte :=
  let counted := BitVec.ofNat 8 r.body.length :: r.body
  0xA6#8 :: counted ++ [checkByte counted]

/-- The reply that TXD is sending: the oldest of the queue (R181). -/
def State.onTxd (s : State) : Option Reply := s.hlk.replies.head?

end Sys2Proof.Machine
end

