-- ==== Sys2Proof/Machine/Supply.lean ====
section
/-! DEFINITION. The supply commands: VBANK and RSTN, the two clocks, recovery, MAINS, the bank-low watch and FLOAT
(R1 to R13, R27, R176). A pin's level follows its edges in every supply condition; what the edge does is guarded by the
condition and the mode. An event that its rule rules out, such as the expiry of an idle timer, does nothing
(notes/assumptions/3.md). -/

namespace Sys2Proof.Machine

/-- An outcome of the host's interface: every command of this block ends in a next state. -/
abbrev Step := Host.Outcome State Fault Refusal

/-! ### VBANK and RSTN (R1, R2) -/

/-- VBANK reaches the start threshold: a stopped part resets, or is held while RSTN is low (R1). -/
def State.vbankStart (lockHigh speedHigh : Bool) (s : State) : State :=
  if s.cond = .stopped then
    let t := { s with pins := { s.pins with lock := lockHigh, speed := speedHigh, bankLow := false } }
    if s.pins.rstn then t.powerOnReset else { t with cond := .held }
  else s

/-- VBANK falls below the stop threshold (R1). -/
def State.vbankStop (s : State) : State :=
  if s.cond = .stopped then s else { s with pins := { s.pins with bankLow := true } }.lose .stopped

/-- RSTN is taken low: a running part is held (R1). -/
def State.rstnLow (s : State) : State :=
  let t := { s with pins := { s.pins with rstn := false } }
  if s.cond = .running then t.lose .held else t

/-- RSTN is taken high: a held part begins a power-on reset (R1). -/
def State.rstnHigh (lockHigh speedHigh : Bool) (s : State) : State :=
  let t := { s with pins := { s.pins with rstn := true, lock := lockHigh, speed := speedHigh } }
  if s.cond = .held then t.powerOnReset else t

def execVbankStart (lockHigh speedHigh : Bool) (s : State) : Step := .next (s.vbankStart lockHigh speedHigh)

def execVbankStop (s : State) : Step := .next s.vbankStop

def execRstnLow (s : State) : Step := .next s.rstnLow

def execRstnHigh (lockHigh speedHigh : Bool) (s : State) : Step := .next (s.rstnHigh lockHigh speedHigh)

/-! ### The clocks (R10, R11) -/

/-- A running timer loses some time, down to 0; its expiry is a command of its own. -/
def countDown (n : Nat) (t : Option Nat) : Option Nat := t.map (· - n)

/-- The float confirmation loses a second. -/
def FloatConf.countDown : FloatConf → FloatConf
  | .running n => .running (n - 1)
  | f => f

/-- The presence window loses a second, and so does the time to its early bound, down to its last second: that the bound has passed is
PRESENCE_EARLY_BOUND's to say, which comes 5 s after the window's start and not with a tick (R190; notes/assumptions/2.md). -/
def Window.countDown : Window → Window
  | .long n => .long (n - 1)
  | .normal n early => .normal (n - 1) (if early ≤ 1 then early else early - 1)
  | .noWindow => .noWindow

/-- The timers of a port lose a second (notes/assumptions/2.md). -/
def Port.countDown (q : Port) : Port :=
  { q with
    burst := Machine.countDown 1 q.burst
    silence := Machine.countDown 1 q.silence
    checkin := Machine.countDown 1 q.checkin
    switch := { q.switch with
      blanking := Machine.countDown 1000 q.switch.blanking
      overload := Machine.countDown 1000 q.switch.overload
      clean := Machine.countDown 1 q.switch.clean
      backoff := Machine.countDown 1 q.switch.backoff }
    cell := { q.cell with report := Machine.countDown 1 q.cell.report } }

/-- A second of running ends: part time counts, and every running timer loses that second (R10; notes/assumptions/2.md). The
checkpoint timer counts in part time outside OUTAGE alone (R10, R11). -/
def State.secondPasses (s : State) : State :=
  { s with
    sup := { s.sup with
      partTime := satAdd s.sup.partTime 1
      lossConf := countDown 1000 s.sup.lossConf
      returnConf := countDown 1 s.sup.returnConf
      bankWatch := countDown 1 s.sup.bankWatch }
    cac := { s.cac with float := s.cac.float.countDown }
    nvs := { s.nvs with cpTimer := if s.sup.mode = Mode.outage then s.nvs.cpTimer else Machine.countDown 1 s.nvs.cpTimer }
    hlk := { s.hlk with window := s.hlk.window.countDown } }.mapPorts fun _ (q : Port) => q.countDown

def execPartTimeTick (s : State) : Step := .next (if s.cond = .running then s.secondPasses else s)

/-- A second of the outage ends: E counts, and with it the checkpoint timer, whose time base in OUTAGE it is (R11). -/
def State.outageSecond (s : State) : State :=
  if s.cond = .running ∧ s.sup.mode = .outage then
    { s with
      sup := { s.sup with outageTime := satAdd s.sup.outageTime 1 }
      nvs := { s.nvs with cpTimer := countDown 1 s.nvs.cpTimer } }
  else s

def execOutageTimeTick (s : State) : Step := .next s.outageSecond

/-! ### Recovery (R176) -/

def execRecoveryEnd (s : State) : Step := .next (s.recover true true)

def execRecoveryTimeout (unread : UnreadPart) (s : State) : Step :=
  .next (s.recover (unread == .ring) (unread == .area))

/-! ### MAINS (R6 to R9) -/

/-- A falling edge of MAINS: the level; in STANDBY the loss confirmation starts; in OUTAGE the return confirmation stops
(R6, R8). -/
def State.mainsFall (s : State) : State :=
  let t := { s with pins := { s.pins with mains := false } }
  if s.cond = .running then
    match s.sup.mode with
    | .start => t
    | .standby => { t with sup := { t.sup with lossConf := some 2000 } }
    | .outage => { t with sup := { t.sup with returnConf := none } }
  else t

/-- A rising edge of MAINS: the level; in STANDBY the loss confirmation stops; in OUTAGE the return confirmation starts
(R6, R8). -/
def State.mainsRise (s : State) : State :=
  let t := { s with pins := { s.pins with mains := true } }
  if s.cond = .running then
    match s.sup.mode with
    | .start => t
    | .standby => { t with sup := { t.sup with lossConf := none } }
    | .outage => { t with sup := { t.sup with returnConf := some 30 } }
  else t

def execMainsFall (s : State) : Step := .next s.mainsFall

def execMainsRise (s : State) : Step := .next s.mainsRise

/-- The loss confirmation runs out and the outage begins (R7). -/
def execLossConfirmationExpiry (s : State) : Step :=
  .next (if s.cond = .running ∧ s.sup.mode = .standby ∧ s.sup.lossConf.isSome then s.outageBegin 0 false else s)

/-- The return confirmation runs out and the outage ends (R9). -/
def execReturnConfirmationExpiry (s : State) : Step :=
  .next (if s.cond = .running ∧ s.sup.mode = .outage ∧ s.sup.returnConf.isSome then s.outageEnd s.sup.outageTime else s)

/-! ### The bank-low watch (R12, R13) -/

/-- The bank falls below 40,000 mV: in OUTAGE the watch starts unless the forced mark is set (R12). -/
def State.bankLowFall (s : State) : State :=
  let t := { s with pins := { s.pins with bankLow := true } }
  if s.cond = .running ∧ s.sup.mode = .outage ∧ !s.sup.forced then
    { t with sup := { t.sup with bankWatch := some 10 } }
  else t

/-- The bank returns to 40,000 mV: the watch stops and the forced mark is cleared (R12). -/
def State.bankLowReturn (s : State) : State :=
  let t := { s with pins := { s.pins with bankLow := false } }
  if s.cond = .running ∧ s.sup.mode = .outage then
    { t with sup := { t.sup with bankWatch := none, forced := false } }
  else t

/-- The watch runs out: the forced mark, the forcing at CAC, and a checkpoint (R13). -/
def State.bankLowForcing (s : State) : State :=
  if s.cond = .running ∧ s.sup.mode = .outage ∧ s.sup.bankWatch.isSome then
    ({ s with sup := { s.sup with forced := true, bankWatch := none } }.forceExhausted).requestCheckpoint
  else s

def execBankLowFall (s : State) : Step := .next s.bankLowFall

def execBankLowReturn (s : State) : Step := .next s.bankLowReturn

def execBankLowWatchExpiry (s : State) : Step := .next s.bankLowForcing

/-! ### FLOAT (R27) -/

/-- A rising edge of FLOAT: in STANDBY the float confirmation starts (R27). -/
def State.floatRise (s : State) : State :=
  let t := { s with pins := { s.pins with float := true } }
  if s.cond = .running ∧ s.sup.mode = .standby then
    { t with cac := { t.cac with float := .running 60 } }
  else t

/-- A falling edge of FLOAT: in STANDBY the float confirmation returns to idle (R27). -/
def State.floatFall (s : State) : State :=
  let t := { s with pins := { s.pins with float := false } }
  if s.cond = .running ∧ s.sup.mode = .standby then { t with cac := { t.cac with float := .idle } } else t

/-- A running float confirmation runs out and is confirmed (R27). -/
def State.floatExpiry (s : State) : State :=
  match s.cac.float with
  | .running _ => if s.cond = .running then { s with cac := { s.cac with float := .confirmed } } else s
  | _ => s

def execFloatRise (s : State) : Step := .next s.floatRise

def execFloatFall (s : State) : Step := .next s.floatFall

def execFloatConfirmationExpiry (s : State) : Step := .next s.floatExpiry

end Sys2Proof.Machine
end

