-- ==== Sys2Proof/Machine/Account.lean ====
section
/-! DEFINITION. The charge account: the account sample and its arithmetic, the candidate and the stage rule, and the
requests GET_ACCOUNT, SET_ACCOUNT_PARAMS and ACCOUNT_RESET (R18 to R34, R40, R41). -/

namespace Sys2Proof.Machine

/-! ### The arithmetic of one sample -/

/-- What the current reading of a sample does: the current used, whether it is the held one, and the invalid run (R19). -/
structure CurrentUse where
  amps    : Int
  wasHeld : Bool
  run     : Nat
  newRun  : Bool
  deriving DecidableEq, Repr

/-- A valid reading becomes the held current and ends the run; an invalid one uses the held current (R19). `newRun` says
that the run reached 10 with this reading. -/
def useCurrent (c : Cac) (reading : Int) (valid : Bool) : CurrentUse :=
  if valid then { amps := reading, wasHeld := false, run := 0, newRun := false }
  else { amps := c.heldCurrent, wasHeld := true, run := satInc 10 c.invalidRun, newRun := c.invalidRun == 9 }

/-- The integration of a current into Q_used, clamped to 0 to Q_limit (R25). -/
def integrate (qLimit qUsed : Nat) (amps : Int) : Nat :=
  if 0 ≤ amps then min qLimit (qUsed + amps.toNat) else min qLimit (qUsed - amps.natAbs * 15 / 16)

/-- The low-bank run after a sample in OUTAGE (R26). -/
def lowRun (run volts threshold : Nat) : Nat := if volts < threshold then satInc 10 run else 0

/-- The target duration less the outage time, 0 past it (R28, R29). -/
def remaining (g : AccountParams) (e : Nat) : Nat := g.targetDuration * 3600 - e

/-- The reserve R (R28). -/
def reserveOf (g : AccountParams) (lifelines e : Nat) : Nat :=
  lifelines * g.callCurrent * g.reserveTime + g.cabinetCurrent * remaining g e

/-- The horizon H (R29). -/
def horizonOf (g : AccountParams) (e : Nat) : Nat := max 900 (remaining g e)

/-- The allowance A (R29). -/
def allowanceOf (spendable horizon : Nat) : Nat := min 65535 (spendable / horizon)

/-- The candidate stage (R32). -/
def candidateOf (g : AccountParams) (usable spendable allowance e : Nat) : Stage :=
  if usable = 0 then .exhausted
  else if spendable = 0 then .reserve
  else if allowance < g.conserveLimit ∨ g.targetDuration * 3600 ≤ e then .conserve
  else .openStage

/-- The stage rule: the stage and the promotion count after a candidate (R33). -/
def stageRule (stage : Stage) (promotion : Nat) (cand : Stage) : Stage × Nat :=
  if stage = .noStage then (cand, 0)
  else if stage.severity < cand.severity then (cand, 0)
  else if cand = stage then (stage, 0)
  else if 60 ≤ promotion + 1 then (cand, 0)
  else (stage, promotion + 1)

/-- The sum S of the averages of the ports FED with class STANDARD (R30). -/
def State.drawn (s : State) : Nat :=
  (allPorts.map fun p =>
    if (s.port p).state = .fed ∧ (s.port p).profile.cls = .standard then (s.port p).switch.average else 0).sum

/-- The credit after an OUTAGE sample (R30). -/
def creditAfter (credit : Int) (allowance drawn cap : Nat) : Int :=
  clampInt (-(cap : Int)) cap (credit + allowance - drawn)

/-- The notice the credit gives when it crosses zero (R31). -/
def creditCrossing (before after : Int) : Option CreditNotice :=
  if before ≤ 0 ∧ 0 < after then some .positive
  else if 0 < before ∧ after ≤ 0 then some .spent
  else none

/-! ### The sample -/

/-- Q_used after the integration and the correction of the mode (R25 to R27): the full-bank correction in STANDBY with the
float confirmed, the low-bank correction in OUTAGE with its run at 10. -/
def usedAfter (mode : Mode) (float : FloatConf) (qLimit integrated run : Nat) : Nat :=
  match mode with
  | .outage => if run = 10 then qLimit else integrated
  | _ => if float = .confirmed then 0 else integrated

/-- Whether the full-bank correction acts at this sample (R27). -/
def fullBank (mode : Mode) (float : FloatConf) : Bool := mode == .standby && float == .confirmed

/-- Steps 1 to 7 of the sample, and in OUTAGE the candidate of step 8 (R23). The stage is left as it is. -/
def State.sampleFigures (volts amps : Int) (valid : Bool) (s : State) : State :=
  let c := s.cac
  let g := c.params
  let v := voltReading volts
  let use := useCurrent c (ampReading amps) valid
  let limit := limitOf g
  let run := if s.inOutage then lowRun c.lowBankRun v g.emptyThreshold else c.lowBankRun
  let used := usedAfter s.sup.mode c.float limit (integrate limit c.qUsed use.amps) run
  let lifelines := s.lifelineCount
  let usable := limit - used
  let reserve := reserveOf g lifelines s.sup.outageTime
  let spendable := usable - reserve
  let horizon := horizonOf g s.sup.outageTime
  let allowance := allowanceOf spendable horizon
  let cap := allowance * 600
  let drawn := s.drawn
  let full := fullBank s.sup.mode c.float
  let t := { s with cac := { c with
      qLimit := limit
      qUsed := used
      heldCurrent := if valid then ampReading amps else c.heldCurrent
      invalidRun := use.run
      uncertain := (c.uncertain || use.newRun) && !full
      lowBankRun := run
      float := if full then .idle else c.float
      figures := some
        { volts := v, amps := use.amps, wasHeld := use.wasHeld, usable := usable, reserve := reserve,
          spendable := spendable, horizon := horizon, allowance := allowance, cap := cap, drawn := drawn,
          lifelines := lifelines }
      credit := if s.inOutage then creditAfter c.credit allowance drawn cap else 0
      candidate := if s.inOutage then some (candidateOf g usable spendable allowance s.sup.outageTime) else none } }
  if use.newRun then t.raise .accountUncertain else t

/-- Step 8: the stage rule (R33, R34), the handing on of the effective stage left to the caller. -/
def State.applyStageRule (s : State) : State :=
  match s.cac.candidate with
  | some cand =>
    let r := stageRule s.cac.stage s.cac.promotion cand
    { s with cac := { s.cac with promotion := r.2 } }.setStage r.1
  | none => s

/-- The stage rule, and the effective stage handed on if it has changed (R33, R34, R39). -/
def State.handStage (s : State) : State := s.applyStageRule.effChanged s.eff

/-- What the sample hands on at its end: a credit notice and a change of the effective stage. Where it hands on both they reach FGA
together: an arbitration taken first grants what the old effective stage allowed (R23, R31, R34, R115). -/
def State.handOn (creditBefore : Int) (s : State) : State :=
  match creditCrossing creditBefore s.cac.credit with
  | none => s.handStage
  | some n =>
    if s.applyStageRule.eff = s.eff then s.applyStageRule.creditNotice n
    else s.eitherOrder (State.creditNotice n) State.handStage

/-- One account sample, in STANDBY and in OUTAGE (R18, R23). -/
def State.accountSample (volts amps : Int) (valid : Bool) (s : State) : State :=
  if s.cond = .running then
    match s.sup.mode with
    | .start => s
    | .standby => s.sampleFigures volts amps valid
    | .outage => (s.sampleFigures volts amps valid).handOn s.cac.credit
  else s

def execAccountSample (volts amps : Int) (valid : Bool) (s : State) : Step := .next (s.accountSample volts amps valid)

/-! ### The requests -/

/-- GET_ACCOUNT (R40). -/
def accountAnswer (s : State) : Answer := { state := s, result := .ok, data := s.accountData }

def execGetAccount (s : State) : Step := .next (s.takeRequest 0x03 false accountAnswer)

/-- SET_ACCOUNT_PARAMS (R21, R22). -/
def paramsAnswer (g : AccountParams) (s : State) : Answer :=
  if s.hlk.supervision = .autonomous then refuse .refusedAutonomous s
  else
    let stored := storedParams g
    { state := { s with cac := { s.cac with params := stored } }.ceilingsChanged s.cac.params
      result := if stored = g then .ok else .okClamped
      data := paramsData stored }

def execSetAccountParams (g : AccountParams) (s : State) : Step :=
  .next (s.takeRequest 0x04 false (paramsAnswer g))

/-- ACCOUNT_RESET (R41). -/
def accountResetAnswer (s : State) : Answer :=
  match s.sup.mode with
  | .standby =>
    { state := { s with cac := { s.cac with qUsed := 0, uncertain := false } }.requestCheckpoint, result := .ok }
  | _ => if s.hlk.supervision = .autonomous then refuse .refusedAutonomous s else refuse .refusedMode s

def execAccountReset (s : State) : Step := .next (s.takeRequest 0x05 false accountResetAnswer)

end Sys2Proof.Machine
end

