-- ==== Sys2Proof/Machine/Line.lean ====
section
/-! DEFINITION. The line signalling: messages that are counted and go no further, notices and the mailbox, the transmitter's
beginnings and ends, and GET_NOTICE (R61 to R83). A message reaches the machine at its end, when it is judged; a receiver that
is GATED hears nothing. -/

namespace Sys2Proof.Machine

/-! ### The receiver -/

/-- A message heard by a port's receiver acts: nothing while the receiver is GATED or the part is not running (R64, R1). The receiver
itself is back in HUNT with the bit that ends the message (`RxState.hear`), and by the time this command is taken it may be in the next
one: it is left as it stands (R66, R68, R69; notes/assumptions/15.md). -/
def State.heard (p : PortId) (act : State → State) (s : State) : State :=
  if s.cond = .running ∧ (s.port p).listens then act s else s

/-- A good message handed to no block is counted (R70, R71). -/
def execLineMessageDiscarded (p : PortId) (corrected : Bool) (s : State) : Step :=
  .next (s.heard p (State.modPort p (countGood corrected)))

/-- A header that is discarded, or declares a body of 13 to 15 bytes (R66, R67). -/
def countRejected (corrected : Bool) (q : Port) : Port :=
  { q with counters := { countHeader corrected q.counters with
      uncorrectable := satInc 65535 q.counters.uncorrectable } }

def execHeaderRejected (p : PortId) (corrected : Bool) (s : State) : Step :=
  .next (s.heard p (State.modPort p (countRejected corrected)))

/-- A message whose check differs (R68). -/
def countFailure (corrected : Bool) (q : Port) : Port :=
  { q with counters := { countHeader corrected q.counters with checkFailed := satInc 65535 q.counters.checkFailed } }

def execCheckFailure (p : PortId) (corrected : Bool) (s : State) : Step :=
  .next (s.heard p (State.modPort p (countFailure corrected)))

/-- A message cut off (R69). -/
def countCutOff (corrected : Bool) (q : Port) : Port :=
  { q with counters := { countHeader corrected q.counters with cutOff := satInc 65535 q.counters.cutOff } }

def execMessageCutOff (p : PortId) (corrected : Bool) (s : State) : Step :=
  .next (s.heard p (State.modPort p (countCutOff corrected)))

/-! ### Notices (R74, R75, R122, R123) -/

/-- A notice is written into the mailbox; one already there is replaced and the overrun flag set (R75). -/
def Mailbox.write (n : Notice) (m : Mailbox) : Mailbox :=
  { held := some n, overrun := m.overrun || m.held.isSome }

/-- LOCAL_POWER_LOST in STANDBY: a standby feed begins on an IDLE port of class LIFELINE or STANDARD whose flag is not
already set (R122). -/
def State.powerLost (p : PortId) (s : State) : State :=
  if (s.port p).state = .idle ∧ (s.port p).profile.cls ≠ .deferred ∧ !(s.port p).standbyFeed then
    ((s.modPort p fun q => { q with standbyFeed := true }).joinQueue p).arbitrate
  else s

/-- LOCAL_POWER_BACK in STANDBY: a standby feed ends, unless a host hold keeps it (R123). -/
def State.powerBack (p : PortId) (s : State) : State :=
  if (s.port p).standbyFeed then
    let t := s.modPort p fun q => { q with standbyFeed := false }
    if (s.port p).hold then t else t.endFeed p .idle
  else s

/-- The codes LOCAL_POWER_LOST and LOCAL_POWER_BACK go to FGA too, in STANDBY (R74). -/
def State.noticeToFga (p : PortId) (code : Byte) (s : State) : State :=
  if s.sup.mode = .standby then
    if code = 1#8 then s.powerLost p else if code = 2#8 then s.powerBack p else s
  else s

/-- A good NOTICE: counted, written into the mailbox, NOTICE_WAITING raised, and handed to FGA where due (R70, R74, R75). -/
def State.noticeArrives (p : PortId) (corrected : Bool) (code detail : Byte) (s : State) : State :=
  let n : Notice := { code := code, detail := detail, time := s.sup.partTime }
  ((s.modPort p fun q => { countGood corrected q with mailbox := q.mailbox.write n }).raisePort
    .noticeWaiting p).noticeToFga p code

def execNotice (p : PortId) (corrected : Bool) (code detail : Byte) (s : State) : Step :=
  .next (s.heard p (State.noticeArrives p corrected code detail))

/-- GET_NOTICE: the mailbox as it was, which is then emptied and its overrun flag cleared (R76). -/
def noticeAnswer (p : PortId) (s : State) : Answer :=
  { state := s.modPort p fun q => { q with mailbox := {} }, result := .ok, data := mailboxData (s.port p).mailbox }

def execGetNotice (port : Nat) (s : State) : Step :=
  .next (s.takeRequest 0x13 false fun t => withPort port t noticeAnswer)

/-! ### The transmitter (R78 to R81) -/

/-- An idle transmitter with a pending slot begins, unless the receiver is taking a message (R79). -/
def State.transmitBegin (p : PortId) (s : State) : State :=
  if s.cond = .running ∧ (s.port p).tx.sending.isNone ∧ !(s.port p).rx.taking then
    s.modPort p Port.beginSending
  else s

def execTransmitBegin (p : PortId) (s : State) : Step := .next (s.transmitBegin p)

/-- The end of a wake pattern: the check-in timer of a WAKING port starts with 20 s (R80, R90). -/
def State.wakePatternEnd (p : PortId) (s : State) : State :=
  if s.cond = .running ∧ (s.port p).tx.sending = some .wakePattern then
    (s.modPort p Port.endSending).modPort p fun q => if q.state = .waking then { q with checkin := some 20 } else q
  else s

def execWakePatternEnd (p : PortId) (s : State) : Step := .next (s.wakePatternEnd p)

/-- The end of a FEED_STATE, handed to no block (R80). -/
def State.feedStateEnd (p : PortId) (s : State) : State :=
  match (s.port p).tx.sending with
  | some (.feedState _) => if s.cond = .running then s.modPort p Port.endSending else s
  | _ => s

def execFeedStateEnd (p : PortId) (s : State) : Step := .next (s.feedStateEnd p)

/-- The end of an order with a nonzero duration: a test in ORDERING becomes LOADING with its report timer (R144). -/
def Port.orderEnded (q : Port) : Port :=
  if q.cell.phase = .ordering then
    { q with cell := { q.cell with phase := .loading, report := some (q.cell.duration.getD 0 + 10) } }
  else q

/-- The end of a CELL_TEST_ORDER; that of a cancel is handed to no block (R80, R144). -/
def State.cellOrderEnd (p : PortId) (s : State) : State :=
  match (s.port p).tx.sending with
  | some (.cellOrder d) =>
    if s.cond = .running then
      let t := s.modPort p Port.endSending
      if d = 0 then t else t.modPort p Port.orderEnded
    else s
  | _ => s

def execCellTestOrderEnd (p : PortId) (s : State) : Step := .next (s.cellOrderEnd p)

end Sys2Proof.Machine
end

