-- ==== Sys2Proof/Machine/Waking.lean ====
section
/-! DEFINITION. Waking and check-ins: wake due, the check-in timer, check-in arrival, awake silence, and the host's WAKE
(R84 to R102, with R45, R46, R71 to R73). -/

namespace Sys2Proof.Machine

/-! ### Wake due and the check-in timer (R85, R91, R92) -/

/-- What WKS does by port state when an entry, already removed, falls due (R91). -/
def State.actOnWakeDue (p : PortId) (s : State) : State :=
  match (s.port p).state with
  | .idle => s.wakePort p
  | .awake => s.setWake p
  | .queued => s.setWake p
  | .fed => s.setWake p
  | .cellTest => s.putWake p (satAdd s.sup.outageTime 5)
  | .lineTest => s.putWake p (satAdd s.sup.outageTime 5)
  | .retry => s.setWake p
  | .locked => s.setWake p
  | .waking => s
  | .off => s

/-- Whether a port's entry has fallen due: E has reached or passed its due time (R85). -/
def State.wakeIsDue (p : PortId) (s : State) : Bool :=
  match s.wakeOf p with
  | some due => decide (due ≤ s.sup.outageTime)
  | none => false

/-- A wake list entry falls due: it is removed and acted on (R85, R91). -/
def State.wakeDue (p : PortId) (s : State) : State :=
  if s.cond = .running ∧ s.sup.mode = .outage ∧ s.wakeIsDue p then (s.dropWake p).actOnWakeDue p else s

def execWakeDue (p : PortId) (s : State) : Step := .next (s.wakeDue p)

/-- In OUTAGE a port's wake entry is set due at E + the effective interval; in STANDBY there is no list (R92, R93, R119). -/
def State.setWakeInOutage (p : PortId) (s : State) : State := if s.inOutage then s.setWake p else s

/-- The missed check-in: IDLE, UNKNOWN, one more miss, MISSED_CHECKIN, the next entry, and a line test at exactly the third
(R92). A terminal state that was CALL leaves it here, and R45 has the rule say whether CALL_END is raised; R92 does not say, and that
none is raised is the model's choice (notes/assumptions/26.md). -/
def State.missCheckin (p : PortId) (s : State) : State :=
  let t := (((s.modPort p fun q =>
    { q with checkin := none, term := .unknown, missed := satInc 255 q.missed }).enter p .idle).raisePort
      .missedCheckin p).setWakeInOutage p
  if (t.port p).missed = 3 then t.askTest p .missedCheckin else t

/-- The check-in timer of a WAKING port runs out (R92). -/
def execCheckinTimerExpiry (p : PortId) (s : State) : Step :=
  .next (if s.cond = .running ∧ (s.port p).state = .waking ∧ (s.port p).checkin.isSome then s.missCheckin p else s)

/-! ### Check-in arrival (R71 to R73, R93 to R96) -/

/-- The identity of a valid check-in: stored when none was, a change of terminal when it differs (R72, R73). -/
def State.judgeIdentity (p : PortId) (identity : BitVec 48) (s : State) : State :=
  match (s.port p).identity with
  | none => s.modPort p fun q => { q with identity := some identity }
  | some old =>
    if old = identity then s
    else
      (s.modPort p fun q =>
        { q with identity := some identity, cellRecord := none, missed := 0 }).raisePort .terminalChanged p

/-- The cell-low mark after a check-in: kept in OUTAGE from the cell weak voltage, left as it is otherwise (R46). -/
def State.lowMark (s : State) (old : Bool) (cellVolts : Nat) : Bool :=
  if s.inOutage then decide (cellVolts < s.cac.params.cellWeakVolt) else old

/-- The awake-silence timer after a check-in (R93). -/
def silenceAfter : Condition → Option Nat
  | .sleepNext => none
  | .awake => some 180
  | .call => some 180

/-- The first part of every valid check-in (R93). -/
def State.checkinFirst (p : PortId) (c : Condition) (cellVolts : Nat) (s : State) : State :=
  (s.modPort p fun q =>
    { q with
      cellVolts := some cellVolts
      cellLow := s.lowMark q.cellLow cellVolts
      missed := 0
      checkin := if q.state = .waking then none else q.checkin
      silence := silenceAfter c }).setWakeInOutage p

/-- The terminal state changes, and CALL_END is raised if it was CALL (R94, R96, R98). -/
def State.leaveCall (p : PortId) (term : TermState) (s : State) : State :=
  let t := s.modPort p fun q => { q with term := term }
  if (s.port p).call then t.raisePort .callEnd p else t

/-- An AWAKE check-in after its first part; `newlyLow` says that it set a mark that was clear (R94). -/
def State.checkinAwake (p : PortId) (newlyLow : Bool) (s : State) : State :=
  let callEnded := (s.port p).call
  let t := s.leaveCall p .awake
  match (s.port p).state with
  | .idle => (t.startBurst p).feedRequest p
  | .waking => (t.startBurst p).feedRequest p
  | .awake =>
    if newlyLow then (t.startBurst p).feedRequest p else if callEnded then t.startBurst p else t
  | .queued => if callEnded then (t.startBurst p).relevel p else t
  | .fed => if callEnded then (t.startBurst p).relevel p else t
  | _ => if callEnded then t.startBurst p else t

/-- CTU aborts a test for a CALL check-in: a cancel order, and the next due time now + 3,600 s (R149). -/
def State.abortForCall (p : PortId) (s : State) : State :=
  ((s.modPort p fun q =>
    { q.clearTest with cell := { q.clearTest.cell with due := satAdd s.sup.partTime 3600 } }).ask p (.cellOrder 0)).enter p .idle

/-- A CALL check-in after its first part (R95). -/
def State.checkinCall (p : PortId) (s : State) : State :=
  let isNew := !(s.port p).call
  let t := s.modPort p fun q => { q with term := .call }
  let u := if isNew then t.raisePort .callStart p else t
  match (s.port p).state with
  | .idle => u.feedRequest p
  | .waking => u.feedRequest p
  | .awake => u.feedRequest p
  | .queued => if isNew then u.relevel p else u
  | .fed => if isNew then u.relevel p else u
  | .cellTest => (u.abortForCall p).feedRequest p
  | _ => u

/-- A SLEEP_NEXT check-in after its first part (R96). -/
def State.checkinSleep (p : PortId) (s : State) : State :=
  let t := (s.leaveCall p .sleep).modPort p fun q => { q with hold := false, standbyFeed := false, burst := none }
  match (s.port p).state with
  | .fed => t.releaseAndArbitrate p .idle
  | .queued => t.withdrawTo p .idle
  | .idle => t.enter p .idle
  | .waking => t.enter p .idle
  | .awake => t.enter p .idle
  | _ => t

/-- A valid check-in: counted, its identity judged, its first part, and then by its condition (R70 to R73, R93 to R96). -/
def State.checkinArrives (p : PortId) (corrected : Bool) (identity : BitVec 48) (c : Condition) (cellVolts : Nat)
    (s : State) : State :=
  let wasLow := (s.port p).cellLow
  let t := ((s.modPort p (countGood corrected)).judgeIdentity p identity).checkinFirst p c cellVolts
  match c with
  | .awake => t.checkinAwake p (!wasLow && (t.port p).cellLow)
  | .call => t.checkinCall p
  | .sleepNext => t.checkinSleep p

def execCheckin (p : PortId) (corrected : Bool) (identity : BitVec 48) (c : Condition) (cellVolts : Nat) (s : State) : Step :=
  .next (s.heard p (State.checkinArrives p corrected identity c cellVolts))

/-! ### Awake silence (R97, R98) -/

/-- The awake-silence timer of a port runs out (R98). -/
def State.silenceExpiry (p : PortId) (s : State) : State :=
  if s.cond = .running ∧ (s.port p).silence.isSome then
    let t := (s.leaveCall p .unknown).modPort p fun q => { q with silence := none, burst := none, standbyFeed := false }
    match (s.port p).state with
    | .fed => t.releaseAndArbitrate p .idle
    | .queued => t.withdrawTo p .idle
    | .awake => t.enter p .idle
    | _ => t
  else s

def execAwakeSilenceExpiry (p : PortId) (s : State) : Step := .next (s.silenceExpiry p)

/-! ### The host's WAKE (R99, R100) -/

/-- The port state that a reply carries (R99, R119, R120, R143, R157, R166). -/
def State.stateData (s : State) (p : PortId) : List Byte := u8 (s.port p).state.code

/-- An accepted request whose reply carries the port state as it stands once the request has acted. -/
def acted (p : PortId) (s : State) : Answer := { state := s, result := .ok, data := s.stateData p }

/-- A WAKE that passed the judgement, by port state (R100). -/
def wakeByState (p : PortId) (urgent : Bool) (s : State) : Answer :=
  match (s.port p).state with
  | .idle => acted p (s.wakePort p)
  | .waking => acted p s
  | .awake => acted p s
  | .queued => acted p s
  | .fed => acted p s
  | .lineTest =>
    if urgent ∧ !s.locked p then acted p ((s.abortTest p).wakePort p) else refuse .refusedState s
  | _ => refuse .refusedState s

/-- WAKE in its order of judgement (R99). -/
def wakeAnswer (port urgency : Nat) (s : State) : Answer :=
  withPort port s fun p s =>
    if 1 < urgency then refuse .badValue s
    else if s.sup.mode = .standby then refuse .refusedMode s
    else if s.hlk.supervision = .autonomous then refuse .refusedAutonomous s
    else if (s.port p).state = .off then refuse .notProvisioned s
    else if s.eff = .exhausted ∧ urgency = 0 then refuse .refusedStage s
    else wakeByState p (urgency == 1) s

def execWake (port urgency : Nat) (s : State) : Step := .next (s.takeRequest 0x20 false (wakeAnswer port urgency))

end Sys2Proof.Machine
end

