-- ==== Sys2Proof/Machine/CellTests.lean ====
section
/-! DEFINITION. The cell test unit: tests falling due, the host's CELL_TEST, reports, verdicts and the report timer
(R140 to R154). -/

namespace Sys2Proof.Machine

/-- CTU starts a test on an IDLE port with a load duration (R142). -/
def State.startCellTest (p : PortId) (duration : Nat) (s : State) : State :=
  ((s.modPort p fun q =>
    { q with cell := { q.cell with phase := .ordering, duration := some duration } }).enter p .cellTest).ask p (.cellOrder duration)

/-- A port's test falls due: in STANDBY an IDLE port is tested and any other looked at again in 600 s; in OUTAGE nothing
(R141). -/
def State.cellTestDue (p : PortId) (s : State) : State :=
  if s.cond = .running ∧ s.sup.mode = .standby ∧ (s.port p).cell.due ≤ s.sup.partTime then
    if (s.port p).state = .idle then s.startCellTest p 30
    else s.modPort p fun q => { q with cell := { q.cell with due := satAdd s.sup.partTime 600 } }
  else s

def execCellTestDue (p : PortId) (s : State) : Step := .next (s.cellTestDue p)

/-- CELL_TEST in its order of judgement (R143). -/
def cellTestAnswer (duration : Nat) (p : PortId) (s : State) : Answer :=
  if s.sup.mode = .outage then refuse .refusedMode s
  else if (s.port p).state = .off then refuse .notProvisioned s
  else if (s.port p).state ≠ .idle then refuse .refusedState s
  else
    let d := storedDuration duration
    let t := s.startCellTest p d
    { state := t
      result := if duration = 0 ∨ duration = d then .ok else .okClamped
      data := u8 d ++ t.stateData p }

def execCellTest (port duration : Nat) (s : State) : Step :=
  .next (s.takeRequest 0x31 false fun t => withPort port t (cellTestAnswer duration))

/-! ### Verdicts (R145, R146) -/

/-- The internal resistance in mΩ (R145). -/
def resistanceOf (r : CellReport) : Nat := min 65535 ((r.vOpen - r.vLoaded) * 1000 / r.iLoad)

/-- The verdict of a report whose load current is at least 50 mA (R145). -/
def verdictOf (g : AccountParams) (r : CellReport) : CellVerdict :=
  if r.vLoaded < g.cellFailVolt ∨ g.cellFailRes < resistanceOf r then .failed
  else if r.vLoaded < g.cellWeakVolt ∨ g.cellWeakRes < resistanceOf r then .weak
  else .good

/-- The cell record of a report (R145, R146). -/
def recordOf (g : AccountParams) (now : Nat) (r : CellReport) : CellRecord :=
  if r.iLoad < 50 then { verdict := .invalid, report := some r, resistance := none, time := now }
  else { verdict := verdictOf g r, report := some r, resistance := some (resistanceOf r), time := now }

/-- A test ends with a verdict: the record, no test, IDLE, CELL_TEST_DONE, and the next due time (R146). -/
def State.endCellTest (p : PortId) (record : CellRecord) (s : State) : State :=
  ((s.modPort p fun q =>
    { q.clearTest with
      cellRecord := some record
      cell := { q.clearTest.cell with due := satAdd s.sup.partTime (86400 * q.profile.cellInterval) } }).enter p .idle).raisePort
        .cellTestDone p

/-- A CELL_REPORT handed to CTU: it completes the test of a port in CELL_TEST, with a cancel if the order was still pending;
otherwise it is not acted on (R145, R147). -/
def State.cellReport (p : PortId) (r : CellReport) (s : State) : State :=
  if (s.port p).state = .cellTest then
    let t := if (s.port p).cell.phase = .ordering then s.ask p (.cellOrder 0) else s
    t.endCellTest p (recordOf s.cac.params s.sup.partTime r)
  else s

def execCellReport (p : PortId) (corrected : Bool) (vOpen vLoaded iLoad : Nat) (s : State) : Step :=
  .next (s.heard p fun t =>
    (t.modPort p (countGood corrected)).cellReport p { vOpen := vOpen, vLoaded := vLoaded, iLoad := iLoad })

/-- The report timer of a port in LOADING runs out: NO_RESPONSE and a cancel (R148). -/
def State.reportExpiry (p : PortId) (s : State) : State :=
  if s.cond = .running ∧ (s.port p).cell.phase = .loading ∧ (s.port p).cell.report.isSome then
    (s.ask p (.cellOrder 0)).endCellTest p { verdict := .noResponse, report := none, resistance := none, time := s.sup.partTime }
  else s

def execReportTimerExpiry (p : PortId) (s : State) : Step := .next (s.reportExpiry p)

end Sys2Proof.Machine
end

