-- ==== Sys2Proof/Machine/Feeds.lean ====
section
/-! DEFINITION. The feed commands: the host's FEED and RELEASE and the burst timer (R108, R109, R119, R120). -/

namespace Sys2Proof.Machine

/-- A FEED that passed the judgement: the hold is set, and then by port state (R119). -/
def State.hostFeed (p : PortId) (s : State) : State :=
  let t := s.modPort p fun q => { q with hold := true }
  match (s.port p).state with
  | .idle => t.wakePort p
  | .awake => (t.joinQueue p).arbitrate
  | .queued => t.relevel p
  | .fed => t.relevel p
  | _ => t

/-- The port states in which FEED is refused (R119, case 6). -/
def PortState.refusesFeed : PortState → Bool
  | .retry => true
  | .locked => true
  | .lineTest => true
  | .cellTest => true
  | _ => false

/-- FEED in its order of judgement (R119). -/
def feedAnswer (p : PortId) (s : State) : Answer :=
  if s.hlk.supervision = .autonomous then refuse .refusedAutonomous s
  else if (s.port p).state = .off then refuse .notProvisioned s
  else if (s.port p).profile.cls = .deferred ∨ (s.port p).state.refusesFeed then refuse .refusedState s
  else if s.eff = .exhausted ∨ (s.eff = .reserve ∧ (s.port p).profile.cls ≠ .lifeline) then refuse .refusedStage s
  else acted p (s.hostFeed p)

def execFeed (port : Nat) (s : State) : Step :=
  .next (s.takeRequest 0x21 false fun t => withPort port t feedAnswer)

/-- A RELEASE that passed the judgement (R120). -/
def State.hostRelease (p : PortId) (s : State) : State :=
  (s.modPort p fun q => { q with hold := false, standbyFeed := false }).endFeed p (s.port p).awakeOrIdle

/-- RELEASE in its order of judgement (R120). -/
def releaseAnswer (p : PortId) (s : State) : Answer :=
  if s.hlk.supervision = .autonomous then refuse .refusedAutonomous s
  else if (s.port p).state = .off then refuse .notProvisioned s
  else if (s.port p).profile.cls = .lifeline ∧ (s.port p).call then refuse .refusedState s
  else acted p (s.hostRelease p)

def execRelease (port : Nat) (s : State) : Step :=
  .next (s.takeRequest 0x22 false fun t => withPort port t releaseAnswer)

/-- The burst timer of a port runs out (R109). -/
def State.burstExpiry (p : PortId) (s : State) : State :=
  if s.cond = .running ∧ (s.port p).burst.isSome then
    let t := s.modPort p fun q => { q with burst := none }
    if (s.port p).call ∨ (s.port p).hold ∨ (s.port p).standbyFeed then t else t.endFeed p (s.port p).awakeOrIdle
  else s

def execBurstTimerExpiry (p : PortId) (s : State) : Step := .next (s.burstExpiry p)

end Sys2Proof.Machine
end

