-- ==== Sys2Proof/Machine/HostLink.lean ====
section
/-! DEFINITION. The host link: frames that are not taken, replies sent, identity, status and schedule, events, presence
supervision and restart (R178 to R192). -/

namespace Sys2Proof.Machine

/-! ### Frames (R178, R179, R181) -/

/-- Whether a discard is judged when the check byte has arrived, so that it is no fault once a RESTART was taken (R179, R185). -/
def judgedAtCheck : RejectCause → Bool
  | .badSum => true
  | .allZero => true
  | .allOnes => true
  | .queueFull => true
  | .badLength => false
  | .framingError => false

/-- A frame is discarded for a cause (R178, R179). A queue that does not hold 4 replies discards nothing. -/
def State.rejectFrame (cause : RejectCause) (s : State) : State :=
  if s.cond ≠ .running then s
  else if judgedAtCheck cause ∧ s.hlk.restarting then s
  else if cause = .queueFull ∧ s.hlk.replies.length < 4 then s
  else s.discardFrame

def execFrameRejected (cause : RejectCause) (s : State) : Step := .next (s.rejectFrame cause)

/-- A gap of more than 20 ms inside a frame discards it (R178). -/
def execFrameGapTimeout (s : State) : Step := .next (if s.cond = .running then s.discardFrame else s)

/-- A break, in every receiver state (R178). -/
def execLineBreak (s : State) : Step := .next (if s.cond = .running then s.discardFrame else s)

/-- A body whose bytes are all 0x00 or all 0xFF (R179). -/
def uniformBody (body : List Byte) : Bool := (body.all fun b => b == 0x00#8) || body.all fun b => b == 0xFF#8

/-- A frame whose code is unknown, or whose length does not match: BAD_REQUEST, in START too (R181, R3). A uniform body is
discarded first (R179). -/
def State.unknownRequest (code : Byte) (data : List Byte) (s : State) : State :=
  if uniformBody (code :: data) then
    (if s.cond = .running ∧ !s.hlk.restarting then s.discardFrame else s)
  else s.takeRequest code.toNat true (refuse .badRequest)

def execUnknownRequest (code : Byte) (data : List Byte) (s : State) : Step := .next (s.unknownRequest code data)

/-- Whether a reply is the reply to an accepted RESTART (R185). -/
def Reply.isRestart (r : Reply) : Bool := r.code == replyCode 0x61 && r.result == .ok

/-- The last byte of the oldest reply is sent: it leaves the queue, and after the reply to a RESTART a restart reset begins
(R181, R185, R2). -/
def State.replySent (s : State) : State :=
  if s.cond = .running then
    match s.hlk.replies with
    | [] => s
    | r :: rest =>
      let t := { s with hlk := { s.hlk with replies := rest } }
      if r.isRestart then t.restartReset else t
  else s

def execReplySent (s : State) : Step := .next s.replySent

/-! ### Identity, status, schedule, restart (R183 to R185) -/

def identityAnswer (s : State) : Answer := { state := s, result := .ok, data := s.identityData }

def execGetIdentity (s : State) : Step := .next (s.takeRequest 0x01 true identityAnswer)

def statusAnswer (s : State) : Answer := { state := s, result := .ok, data := s.statusData }

def execGetStatus (s : State) : Step := .next (s.takeRequest 0x02 true statusAnswer)

/-- GET_SCHEDULE: one snapshot by part number (R184). -/
def scheduleAnswer (part : Nat) (s : State) : Answer :=
  match part with
  | 0 => { state := s, result := .ok, data := s.wakeListData }
  | 1 => { state := s, result := .ok, data := s.feedData }
  | 2 => { state := s, result := .ok, data := s.testData }
  | _ => refuse .badValue s

def execGetSchedule (part : Nat) (s : State) : Step := .next (s.takeRequest 0x14 false (scheduleAnswer part))

/-- RESTART: once its reply is built, no further request is taken (R185). -/
def restartAnswer (s : State) : Answer :=
  { state := { s with hlk := { s.hlk with restarting := true } }, result := .ok }

def execRestart (s : State) : Step := .next (s.takeRequest 0x61 false restartAnswer)

/-! ### Events (R187 to R189) -/

def eventsAnswer (s : State) : Answer := { state := s, result := .ok, data := s.eventsData }

def execGetEvents (s : State) : Step := .next (s.takeRequest 0x40 false eventsAnswer)

/-- Whether a kind set of 3 bytes has a bit at positions 17 to 23 (R187, R189). -/
def beyondKinds (kinds : BitVec 24) : Bool := kinds.toNat ≥ 131072

/-- CLEAR_EVENTS (R189). -/
def clearEventsAnswer (kinds : BitVec 24) (masks : PortMasks) (s : State) : Answer :=
  if beyondKinds kinds then refuse .badValue s
  else
    let h := clearKinds (kinds.setWidth 17) masks s.hlk
    { state := { s with hlk := h }, result := .ok, data := u24 h.flags.toNat ++ masksData h.masks }

def execClearEvents (kinds : BitVec 24) (masks : PortMasks) (s : State) : Step :=
  .next (s.takeRequest 0x41 false (clearEventsAnswer kinds masks))

/-- SET_EVENT_ENABLE (R187). -/
def enableAnswer (kinds : BitVec 24) (s : State) : Answer :=
  if beyondKinds kinds then refuse .badValue s
  else
    { state := { s with hlk := { s.hlk with enables := kinds.setWidth 17 } }, result := .ok, data := u24 kinds.toNat }

def execSetEventEnable (kinds : BitVec 24) (s : State) : Step := .next (s.takeRequest 0x42 false (enableAnswer kinds))

/-! ### Presence supervision (R190 to R192) -/

/-- Supervision becomes AUTONOMOUS (R192). -/
def State.setAutonomous (s : State) : State := { s with hlk := { s.hlk with supervision := .autonomous } }

/-- The change of supervision reaches CAC, which derives the effective stage afresh and hands it on (R190, R39). -/
def State.worsenBySupervision (s : State) : State := s.setAutonomous.effChanged s.eff

/-- The move to AUTONOMOUS: no window, PRESENCE_LOST, and the change handed to FGA and to CAC (R192, R190). Where it leaves the
effective stage as it is, the holds alone are cleared. Where it worsens it, the clearing and the worsening reach FGA together: a
clearing taken first still stands under the old effective stage, one taken second under the new (R121). -/
def State.toAutonomous (s : State) : State :=
  let t := { s with hlk := { s.hlk with window := .noWindow } }.raise .presenceLost
  if t.setAutonomous.eff = t.eff then t.setAutonomous.clearHolds
  else t.eitherOrder State.clearHolds State.worsenBySupervision

/-- An accepted token: it toggles, and a normal window starts (R191). -/
def State.acceptToken (s : State) : State :=
  { s with hlk := { s.hlk with token := 3 - s.hlk.token, window := .normal 60 5 } }

/-- The return to SUPERVISED by token 1: expected token 2, a long window, and the change handed to CAC (R191, R192). -/
def State.resumeSupervised (s : State) : State :=
  ({ s with hlk := { s.hlk with supervision := .supervised, token := 2, window := .long 300 } }).effChanged s.eff

/-- A PRESENCE with token 1 or 2 in OUTAGE (R191). -/
def State.presenceToken (token : Nat) (s : State) : State :=
  match s.hlk.supervision with
  | .autonomous => if token = 1 then s.resumeSupervised else s
  | .supervised =>
    match s.hlk.window with
    | .normal _ (_ + 1) => s.toAutonomous
    | _ => if token = s.hlk.token then s.acceptToken else s.toAutonomous

/-- PRESENCE (R191): the reply carries the supervision state and the expected token after the request. -/
def presenceAnswer (token : Nat) (s : State) : Answer :=
  if token = 1 ∨ token = 2 then
    let t := if s.sup.mode = .outage then s.presenceToken token else s
    { state := t, result := .ok, data := u8 t.hlk.supervision.code ++ u8 t.hlk.token }
  else refuse .badValue s

def execPresence (token : Nat) (s : State) : Step := .next (s.takeRequest 0x50 false (presenceAnswer token))

/-- The early bound of a normal window passes, 5 s after the window starts: it does nothing while more than a second is left to
the bound, the time by which the window's own start may stand off the ticks, and nothing else makes the bound pass (R190;
notes/assumptions/2.md). -/
def State.earlyBound (s : State) : State :=
  match s.hlk.window with
  | .normal n early =>
    if s.cond = .running ∧ early ≤ 1 then { s with hlk := { s.hlk with window := .normal n 0 } } else s
  | _ => s

def execPresenceEarlyBound (s : State) : Step := .next s.earlyBound

/-- A window runs out in OUTAGE while SUPERVISED (R192). -/
def State.windowExpiry (s : State) : State :=
  if s.cond = .running ∧ s.sup.mode = .outage ∧ s.hlk.supervision = .supervised ∧ s.hlk.window ≠ .noWindow then
    s.toAutonomous
  else s

def execPresenceWindowExpiry (s : State) : Step := .next s.windowExpiry

end Sys2Proof.Machine
end

