-- ==== Sys2Proof/Machine/LineTests.lean ====
section
/-! DEFINITION. The pair diagnostic instrument: LINE_TEST, the periodic schedule, taking an entry, the phases, the
classification and its effects, and CLEAR_LOCKOUT (R155 to R167). -/

namespace Sys2Proof.Machine

/-- LINE_TEST in its order of judgement; the reply carries the port state and whether a new entry joined (R157). That this figure
is sent as a yes-no figure, 1 for a new entry and 0 for a port already queued, is the model's choice: the rule gives no code, and by
the place in its words R182 would give 0 and 1 (notes/assumptions/11.md). -/
def lineTestAnswer (p : PortId) (s : State) : Answer :=
  match (s.port p).state with
  | .off => refuse .notProvisioned s
  | .fed => refuse .refusedState s
  | .queued => refuse .refusedState s
  | .retry => refuse .refusedState s
  | _ => { state := s.askTest p .host, result := .ok, data := s.stateData p ++ flag (!s.testQueued p) }

def execLineTest (port : Nat) (s : State) : Step :=
  .next (s.takeRequest 0x30 false fun t => withPort port t lineTestAnswer)

def execPeriodicTestDue (p : PortId) (s : State) : Step := .next (s.periodicDue p)

/-! ### Taking an entry (R159) -/

/-- The state a port is borrowed from, if it can be (R159). -/
def borrowable : PortState → Option Borrowed
  | .idle => some .fromIdle
  | .locked => some .fromLocked
  | _ => none

/-- The oldest entry whose port is IDLE or LOCKED, with the state it is borrowed from (R159). -/
def State.firstEligible (s : State) : Option (TestEntry × Borrowed) :=
  s.pdi.queue.findSome? fun e => (borrowable (s.port e.port).state).map fun b => (e, b)

/-- The idle instrument takes the oldest eligible entry, outside EXHAUSTED (R159). -/
def State.takeTest (s : State) : State :=
  if s.cond = .running ∧ s.pdi.instrument.isNone ∧ s.eff ≠ .exhausted then
    match s.firstEligible with
    | some (e, b) =>
      { s with pdi :=
        { instrument := some { port := e.port, borrowed := b, phase := .connecting, t1 := none, t2 := none, t3 := none }
          queue := s.pdi.queue.filter fun x => x.port != e.port } }.enter e.port .lineTest
    | none => s
  else s

def execLineTestTake (s : State) : Step := .next s.takeTest

/-! ### The phases and the classification (R160, R161) -/

/-- A test current on a conductor (R160). -/
inductive Drive where
  | sink
  | source
  deriving DecidableEq, Repr

/-- The configuration of test currents set at the beginning of a phase, A then B; none in CONNECTING (R160). -/
def TestPhase.currents : TestPhase → Option (Drive × Drive)
  | .connecting => none
  | .t1 => some (.sink, .sink)
  | .t2 => some (.source, .sink)
  | .t3 => some (.sink, .source)

/-- The test currents on a port's pair: those of the phase while the instrument is connected to it, none otherwise (R159, R160). -/
def State.testCurrents (s : State) (p : PortId) : Option (Drive × Drive) :=
  match s.pdi.instrument with
  | some t => if t.port = p then t.phase.currents else none
  | none => none

/-- The end of CONNECTING, T1 or T2: the conductors are sampled where due, and the next phase begins (R160). -/
def LineTest.advance (r : Reading) (t : LineTest) : LineTest :=
  match t.phase with
  | .connecting => { t with phase := .t1 }
  | .t1 => { t with phase := .t2, t1 := some r }
  | .t2 => { t with phase := .t3, t2 := some r }
  | .t3 => t

/-- A phase of the test under way ends (R160). -/
def State.phaseEnd (r : Reading) (s : State) : State :=
  match s.pdi.instrument with
  | some t => if s.cond = .running then { s with pdi := { s.pdi with instrument := some (t.advance r) } } else s
  | none => s

def execLineTestPhaseEnd (aHigh bHigh : Bool) (s : State) : Step := .next (s.phaseEnd { aHigh := aHigh, bHigh := bHigh })

/-- The classification of the six readings, A then B for T1, T2 and T3 (R161). -/
def classify (t1 t2 t3 : Reading) : LineVerdict :=
  match t1.aHigh, t1.bHigh, t2.aHigh, t2.bHigh, t3.aHigh, t3.bHigh with
  | false, false, true, true, false, true => .normal
  | false, false, true, false, false, true => .openPair
  | false, false, true, false, true, true => .crossed
  | false, false, true, true, true, true => .pairShort
  | true, true, true, true, true, true => .shortHigh
  | false, false, false, false, false, false => .shortLow
  | _, _, _, _, _, _ => .indeterminate

/-- The port leaves LINE_TEST by the verdict and the state it was borrowed from (R162, R163). -/
def State.afterVerdict (v : LineVerdict) (b : Borrowed) (p : PortId) (s : State) : State :=
  match v, b with
  | .normal, .fromIdle => (s.modPort p fun q => { q with switch := { q.switch with trips := 0 } }).enter p .idle
  | .normal, .fromLocked => s.unlock p
  | .indeterminate, .fromIdle => s.enter p .idle
  | .indeterminate, .fromLocked => s.enter p .locked
  | _, .fromIdle => s.lock p .lineFault
  | _, .fromLocked => (s.modPort p fun q => { q with lockReason := some .lineFault }).enter p .locked

/-- The test completes: the instrument idle, the line record and the attempt, the periodic due time, LINE_TEST_DONE, and the
port leaves LINE_TEST (R161). -/
def State.finishTest (t : LineTest) (v : LineVerdict) (s : State) : State :=
  ((({ s with pdi := { s.pdi with instrument := none } }.modPort t.port fun q =>
    { q with
      lineRecord := some { verdict := v, time := s.sup.partTime }
      lineAttempt := some (.verdict v)
      periodicDue := s.nextPeriodic }).raisePort .lineTestDone t.port).afterVerdict v t.borrowed t.port)

/-- The verdict of a test whose last sample has been taken: none while a reading is missing (R160, R161). -/
def LineTest.verdict (t : LineTest) : Option LineVerdict :=
  match t.t1, t.t2, t.t3 with
  | some r1, some r2, some r3 => some (classify r1 r2 r3)
  | _, _, _ => none

/-- Phase T3 ends: A and B are sampled, and the pair is classified (R160, R161). -/
def State.completeTest (r : Reading) (s : State) : State :=
  match s.pdi.instrument with
  | some t =>
    match t.phase, { t with t3 := some r : LineTest }.verdict with
    | .t3, some v => if s.cond = .running then s.finishTest t v else s
    | _, _ => s
  | none => s

def execLineTestComplete (aHigh bHigh : Bool) (s : State) : Step :=
  .next (s.completeTest { aHigh := aHigh, bHigh := bHigh })

/-! ### CLEAR_LOCKOUT (R166) -/

/-- CLEAR_LOCKOUT in its order of judgement (R166). -/
def clearLockoutAnswer (p : PortId) (s : State) : Answer :=
  match (s.port p).state with
  | .off => refuse .notProvisioned s
  | .locked => acted p (s.unlock p)
  | _ => refuse .refusedState s

def execClearLockout (port : Nat) (s : State) : Step :=
  .next (s.takeRequest 0x12 false fun t => withPort port t clearLockoutAnswer)

end Sys2Proof.Machine
end

