-- ==== Sys2Proof/Machine/PortTable.lean ====
section
/-! DEFINITION. The port table's requests: GET_PORT and SET_PROFILE, with enabling, disabling and the changes on a live port
(R42 to R60). -/

namespace Sys2Proof.Machine

/-- GET_PORT (R59, R60). -/
def portAnswer (p : PortId) (s : State) : Answer := { state := s, result := .ok, data := s.portData p }

def execGetPort (port : Nat) (s : State) : Step :=
  .next (s.takeRequest 0x10 false fun t => withPort port t portAnswer)

/-! ### Enabling and disabling -/

/-- Enabling: the port goes from OFF to IDLE; in OUTAGE a wake entry is made due at E + 30 s where the effective interval is not
none, and in STANDBY a periodic line test whose due time has passed is asked for at once (R53, R158). -/
def State.enablePort (p : PortId) (s : State) : State :=
  let t := (s.modPort p fun q =>
    { q with term := .unknown, hold := false, standbyFeed := false, cellLow := false }).enter p .idle
  if t.inOutage ∧ (t.interval p).isSome then t.putWake p (satAdd t.sup.outageTime 30) else t.periodicDue p

/-- A running cell test is aborted by disabling: the next due time is now + 3,600 s (R55, R151). -/
def Port.disableTest (now : Nat) (q : Port) : Port :=
  if q.state = .cellTest then { q.clearTest with cell := { q.clearTest.cell with due := satAdd now 3600 } } else q

/-- What disabling leaves of the record (R55). -/
def Port.disabled (now : Nat) (q : Port) : Port :=
  { q.disableTest now with
    term := .unknown, hold := false, standbyFeed := false, cellLow := false, lockReason := none
    burst := none, silence := none, checkin := none
    switch := { q.switch.openUp with trips := 0, backoff := none } }

/-- A line test of the port in progress is aborted (R55, R165). -/
def State.abortIfTesting (p : PortId) (s : State) : State := if (s.port p).state = .lineTest then s.abortTest p else s

/-- Disabling ends everything the port has under way and takes it to OFF. The lockout mask changes if it held the port, and
the freed slot of a released grant leads to an arbitration (R55, R47). -/
def State.disablePort (p : PortId) (s : State) : State :=
  let wasLocked := s.locked p
  let wasFed := (s.port p).state == .fed
  let t := (s.abortIfTesting p).dropWake p
  let u := { t with
    fga := (t.fga.dropEntry p).dropGrant p
    pdi := { t.pdi with queue := t.pdi.queue.filter fun e => e.port != p } }
  let v := (u.modPort p (Port.disabled s.sup.partTime)).enter p .off
  let w := if wasLocked then v.requestCheckpoint else v
  if wasFed then w.arbitrate else w

/-! ### Changes on a live port -/

/-- A change of class of an enabled port, as it acts on a queue entry or a grant (R56). -/
def State.classChanged (p : PortId) (s : State) : State :=
  if (s.port p).profile.cls = .deferred then
    match (s.port p).state with
    | .queued =>
      (s.withdrawTo p (s.port p).awakeOrIdle).modPort p fun q => { q with hold := false, standbyFeed := false }
    | .fed =>
      ((s.releaseTo p (s.port p).awakeOrIdle).modPort p fun q =>
        { q with hold := false, standbyFeed := false }).arbitrate
    | _ => s
  else s.relevel p

/-- In OUTAGE a change of class or wake interval sets the wake entry to E + the effective interval, or removes it (R57). -/
def State.intervalChanged (p : PortId) (s : State) : State := if s.inOutage then s.setWake p else s

/-- The new profile is stored, and its differences from the old one act (R51, R53 to R58). -/
def State.storeProfile (p : PortId) (new : Profile) (s : State) : State :=
  let old := (s.port p).profile
  let t := s.modPort p fun q => { q with profile := new }
  match old.enabled, new.enabled with
  | false, true => t.enablePort p
  | true, false => t.disablePort p
  | false, false => t
  | true, true =>
    let u := if old.cls ≠ new.cls then t.classChanged p else t
    if old.cls ≠ new.cls ∨ old.wakeInterval ≠ new.wakeInterval then u.intervalChanged p else u

/-- SET_PROFILE in its order of judgement (R51). -/
def profileAnswer (g : ProfileRequest) (s : State) : Answer :=
  withPort g.port s fun p s =>
    match storedProfile g with
    | none => refuse .badValue s
    | some q =>
      if s.hlk.supervision = .autonomous then refuse .refusedAutonomous s
      else
        { state := s.storeProfile p q
          result := if profileClamped g q then .okClamped else .ok
          data := profileData q }

def execSetProfile (g : ProfileRequest) (s : State) : Step := .next (s.takeRequest 0x11 false (profileAnswer g))

end Sys2Proof.Machine
end

