-- ==== Sys2Proof/Machine/Store.lean ====
section
/-! DEFINITION. The non-volatile store: SAVE_PROFILES, the ends of a save and of a checkpoint write, and the checkpoint timer
(R168 to R177). -/

namespace Sys2Proof.Machine

/-- Whether a save is under way (R170). -/
def Activity.isSaving : Activity → Bool
  | .saving _ => true
  | _ => false

/-- An accepted save begins at once on an idle store, and waits behind a checkpoint write (R170, R175). -/
def State.acceptSave (s : State) : State :=
  match s.nvs.activity with
  | .idle => s.beginSave
  | _ => { s with nvs := { s.nvs with waitingSave := true } }

/-- SAVE_PROFILES in its order of judgement (R170). -/
def saveAnswer (s : State) : Answer :=
  if s.straps.lockHigh then refuse .refusedLocked s
  else if s.nvs.waitingSave ∨ s.nvs.activity.isSaving then refuse .busy s
  else { state := s.acceptSave, result := .ok }

def execSaveProfiles (s : State) : Step := .next (s.takeRequest 0x60 false saveAnswer)

/-- A save ends: DONE with the area written, or FAILED with STORE_FAULT and the area bad (R171). -/
def State.saveEnd (agrees : Bool) (s : State) : State :=
  match s.nvs.activity with
  | .saving a =>
    if s.cond = .running then
      (if agrees then { s with nvs := { s.nvs with area := some a, saveResult := .done } }
       else { s with nvs := { s.nvs with saveResult := .failed } }.raise .storeFault).nextOperation
    else s
  | _ => s

def execSaveEnd (agrees : Bool) (s : State) : Step := .next (s.saveEnd agrees)

/-- A checkpoint write ends: the slot is valid and its number the highest, or the slot is invalid with STORE_FAULT (R174). -/
def State.writeEnd (agrees : Bool) (s : State) : State :=
  match s.nvs.activity with
  | .writingCheckpoint c =>
    if s.cond = .running then
      (if agrees then
        { s with nvs := { s.nvs with ring := s.nvs.ring.setIfInBounds s.nvs.lastSlot (some c), highSequence := c.sequence } }
       else s.raise .storeFault).nextOperation
    else s
  | _ => s

def execCheckpointWriteEnd (agrees : Bool) (s : State) : Step := .next (s.writeEnd agrees)

/-- The checkpoint timer runs out: a checkpoint is asked for and the timer restarts (R173). -/
def State.checkpointExpiry (s : State) : State :=
  if s.cond = .running ∧ s.nvs.cpTimer.isSome then s.requestCheckpoint.startCheckpointTimer else s

def execCheckpointTimerExpiry (s : State) : Step := .next s.checkpointExpiry

end Sys2Proof.Machine
end

