-- ==== Sys2Proof/Machine/Switches.lean ====
section
/-! DEFINITION. The feed switches: the current samples, the two protections, and the backoff (R125 to R138). -/

namespace Sys2Proof.Machine

/-- Every 100 ms from the end of START, each port's current is sampled and its average formed (R128). -/
def State.sampleCurrents (currents : Vector Nat 16) (s : State) : State :=
  if s.cond = .running ∧ s.sup.mode ≠ .start then
    s.mapPorts fun p q => { q with switch := q.switch.sample currents[p.val] }
  else s

def execFeedCurrentSample (currents : Vector Nat 16) (s : State) : Step := .next (s.sampleCurrents currents)

/-- A current above 2,500 mA trips a closed switch at once (R130). -/
def execShortDetected (p : PortId) (s : State) : Step :=
  .next (if s.cond = .running ∧ (s.port p).switch.closed then s.trip .short p else s)

/-- A change of a port's overload timer. -/
def State.setOverload (p : PortId) (v : Option Nat) (s : State) : State :=
  s.modPort p fun q => { q with switch := { q.switch with overload := v } }

/-- The current rises above the granted limit: the overload timer starts, unless the blanking runs (R131). -/
def State.overloadRise (p : PortId) (s : State) : State :=
  if s.cond = .running ∧ (s.port p).switch.closed ∧ (s.port p).switch.blanking = none then s.setOverload p (some 500) else s

def execOverloadRise (p : PortId) (s : State) : Step := .next (s.overloadRise p)

/-- The current falls to the granted limit or below: the overload timer returns to idle (R131). -/
def execOverloadFall (p : PortId) (s : State) : Step :=
  .next (if s.cond = .running then s.setOverload p none else s)

/-- The overload timer runs out (R131). -/
def execOverloadTimerExpiry (p : PortId) (s : State) : Step :=
  .next (if s.cond = .running ∧ (s.port p).switch.closed ∧ (s.port p).switch.overload.isSome then s.trip .overload p else s)

/-- The blanking runs out: the overload timer starts at that moment if the current stands above the granted limit (R131). -/
def State.blankingExpiry (p : PortId) (above : Bool) (s : State) : State :=
  if s.cond = .running ∧ (s.port p).switch.blanking.isSome then
    s.modPort p fun q =>
      { q with switch := { q.switch with
          blanking := none, overload := if above && q.switch.closed then some 500 else q.switch.overload } }
  else s

def execInrushBlankingExpiry (p : PortId) (above : Bool) (s : State) : Step := .next (s.blankingExpiry p above)

/-- Sixty seconds of clean feed forget the earlier trips (R138). -/
def State.cleanExpiry (p : PortId) (s : State) : State :=
  if s.cond = .running ∧ (s.port p).switch.clean.isSome then
    s.modPort p fun q => { q with switch := { q.switch with clean := none, trips := 0 } }
  else s

def execCleanFeedExpiry (p : PortId) (s : State) : Step := .next (s.cleanExpiry p)

/-- Whether a port in RETRY still wants feed at its retry expiry (R136). -/
def Port.wantsFeed (m : Mode) (q : Port) : Bool :=
  match m with
  | .outage => q.profile.cls != .deferred && (q.call || q.hold || q.burst.isSome)
  | .standby => q.profile.cls != .deferred && (q.standbyFeed || q.hold)
  | .start => false

/-- The backoff of a port in RETRY runs out (R136). -/
def State.retryExpiry (p : PortId) (s : State) : State :=
  if s.cond = .running ∧ (s.port p).state = .retry ∧ (s.port p).switch.backoff.isSome then
    let t := s.modPort p fun q => { q with switch := { q.switch with backoff := none } }
    if (t.port p).wantsFeed t.sup.mode ∧ t.admitted p then (t.joinQueue p).arbitrate
    else t.enter p (t.port p).awakeOrIdle
  else s

def execRetryExpiry (p : PortId) (s : State) : Step := .next (s.retryExpiry p)

end Sys2Proof.Machine
end

