-- ==== Sys2Proof/Machine/Dispatch.lean ====
section
/-! DEFINITION. The dispatch of the commands: one arm per constructor of `Instr`, each one call of its meaning. -/

namespace Sys2Proof.Machine

def exec (i : Instr) (s : State) : Host.Outcome State Fault Refusal :=
  match i with
  | .vbankStart lockHigh speedHigh => Sys2Proof.Machine.execVbankStart lockHigh speedHigh s
  | .vbankStop => Sys2Proof.Machine.execVbankStop s
  | .rstnLow => Sys2Proof.Machine.execRstnLow s
  | .rstnHigh lockHigh speedHigh => Sys2Proof.Machine.execRstnHigh lockHigh speedHigh s
  | .partTimeTick => Sys2Proof.Machine.execPartTimeTick s
  | .outageTimeTick => Sys2Proof.Machine.execOutageTimeTick s
  | .recoveryEnd => Sys2Proof.Machine.execRecoveryEnd s
  | .recoveryTimeout unread => Sys2Proof.Machine.execRecoveryTimeout unread s
  | .mainsFall => Sys2Proof.Machine.execMainsFall s
  | .mainsRise => Sys2Proof.Machine.execMainsRise s
  | .lossConfirmationExpiry => Sys2Proof.Machine.execLossConfirmationExpiry s
  | .returnConfirmationExpiry => Sys2Proof.Machine.execReturnConfirmationExpiry s
  | .bankLowFall => Sys2Proof.Machine.execBankLowFall s
  | .bankLowReturn => Sys2Proof.Machine.execBankLowReturn s
  | .bankLowWatchExpiry => Sys2Proof.Machine.execBankLowWatchExpiry s
  | .accountSample volts amps valid => Sys2Proof.Machine.execAccountSample volts amps valid s
  | .floatRise => Sys2Proof.Machine.execFloatRise s
  | .floatFall => Sys2Proof.Machine.execFloatFall s
  | .floatConfirmationExpiry => Sys2Proof.Machine.execFloatConfirmationExpiry s
  | .frameRejected cause => Sys2Proof.Machine.execFrameRejected cause s
  | .frameGapTimeout => Sys2Proof.Machine.execFrameGapTimeout s
  | .lineBreak => Sys2Proof.Machine.execLineBreak s
  | .unknownRequest code data => Sys2Proof.Machine.execUnknownRequest code data s
  | .replySent => Sys2Proof.Machine.execReplySent s
  | .getIdentity => Sys2Proof.Machine.execGetIdentity s
  | .getStatus => Sys2Proof.Machine.execGetStatus s
  | .getAccount => Sys2Proof.Machine.execGetAccount s
  | .setAccountParams given => Sys2Proof.Machine.execSetAccountParams given s
  | .accountReset => Sys2Proof.Machine.execAccountReset s
  | .getPort port => Sys2Proof.Machine.execGetPort port s
  | .setProfile given => Sys2Proof.Machine.execSetProfile given s
  | .clearLockout port => Sys2Proof.Machine.execClearLockout port s
  | .getNotice port => Sys2Proof.Machine.execGetNotice port s
  | .getSchedule part => Sys2Proof.Machine.execGetSchedule part s
  | .wake port urgency => Sys2Proof.Machine.execWake port urgency s
  | .feed port => Sys2Proof.Machine.execFeed port s
  | .release port => Sys2Proof.Machine.execRelease port s
  | .lineTest port => Sys2Proof.Machine.execLineTest port s
  | .cellTest port duration => Sys2Proof.Machine.execCellTest port duration s
  | .getEvents => Sys2Proof.Machine.execGetEvents s
  | .clearEvents kinds masks => Sys2Proof.Machine.execClearEvents kinds masks s
  | .setEventEnable kinds => Sys2Proof.Machine.execSetEventEnable kinds s
  | .presence token => Sys2Proof.Machine.execPresence token s
  | .saveProfiles => Sys2Proof.Machine.execSaveProfiles s
  | .restart => Sys2Proof.Machine.execRestart s
  | .presenceEarlyBound => Sys2Proof.Machine.execPresenceEarlyBound s
  | .presenceWindowExpiry => Sys2Proof.Machine.execPresenceWindowExpiry s
  | .checkin p corrected identity condition cellVolts => Sys2Proof.Machine.execCheckin p corrected identity condition cellVolts s
  | .notice p corrected code detail => Sys2Proof.Machine.execNotice p corrected code detail s
  | .cellReport p corrected vOpen vLoaded iLoad => Sys2Proof.Machine.execCellReport p corrected vOpen vLoaded iLoad s
  | .lineMessageDiscarded p corrected => Sys2Proof.Machine.execLineMessageDiscarded p corrected s
  | .headerRejected p corrected => Sys2Proof.Machine.execHeaderRejected p corrected s
  | .checkFailure p corrected => Sys2Proof.Machine.execCheckFailure p corrected s
  | .messageCutOff p corrected => Sys2Proof.Machine.execMessageCutOff p corrected s
  | .transmitBegin p => Sys2Proof.Machine.execTransmitBegin p s
  | .wakePatternEnd p => Sys2Proof.Machine.execWakePatternEnd p s
  | .feedStateEnd p => Sys2Proof.Machine.execFeedStateEnd p s
  | .cellTestOrderEnd p => Sys2Proof.Machine.execCellTestOrderEnd p s
  | .wakeDue p => Sys2Proof.Machine.execWakeDue p s
  | .checkinTimerExpiry p => Sys2Proof.Machine.execCheckinTimerExpiry p s
  | .awakeSilenceExpiry p => Sys2Proof.Machine.execAwakeSilenceExpiry p s
  | .burstTimerExpiry p => Sys2Proof.Machine.execBurstTimerExpiry p s
  | .feedCurrentSample currents => Sys2Proof.Machine.execFeedCurrentSample currents s
  | .shortDetected p => Sys2Proof.Machine.execShortDetected p s
  | .overloadRise p => Sys2Proof.Machine.execOverloadRise p s
  | .overloadFall p => Sys2Proof.Machine.execOverloadFall p s
  | .overloadTimerExpiry p => Sys2Proof.Machine.execOverloadTimerExpiry p s
  | .inrushBlankingExpiry p above => Sys2Proof.Machine.execInrushBlankingExpiry p above s
  | .cleanFeedExpiry p => Sys2Proof.Machine.execCleanFeedExpiry p s
  | .retryExpiry p => Sys2Proof.Machine.execRetryExpiry p s
  | .cellTestDue p => Sys2Proof.Machine.execCellTestDue p s
  | .reportTimerExpiry p => Sys2Proof.Machine.execReportTimerExpiry p s
  | .periodicTestDue p => Sys2Proof.Machine.execPeriodicTestDue p s
  | .lineTestTake => Sys2Proof.Machine.execLineTestTake s
  | .lineTestPhaseEnd aHigh bHigh => Sys2Proof.Machine.execLineTestPhaseEnd aHigh bHigh s
  | .lineTestComplete aHigh bHigh => Sys2Proof.Machine.execLineTestComplete aHigh bHigh s
  | .saveEnd agrees => Sys2Proof.Machine.execSaveEnd agrees s
  | .checkpointTimerExpiry => Sys2Proof.Machine.execCheckpointTimerExpiry s
  | .checkpointWriteEnd agrees => Sys2Proof.Machine.execCheckpointWriteEnd agrees s

end Sys2Proof.Machine
end

