-- ==== Sys2Proof/Machine/Wires.lean ====
section
/-! DEFINITION. The wires of the part: how bytes on RXD and bits on a pair become the commands of the table (R61 to R69, R178), and
what the part itself puts on its pairs and on TXD (R61, R62, R80, R178, R181). The two receivers are driven from outside by the
operations `State.rxd`, `State.pairBit` and `State.pairTimingLost`: each changes the receiver's own state and, where a frame or a
message has ended, puts the command it is at the end of the queue (notes/assumptions/15.md, notes/assumptions/16.md). -/

namespace Sys2Proof.Machine

/-! ### The frame receiver (R178) -/

/-- What the serial receiver can find on RXD (R178). -/
inductive RxdEvent where
  /-- A byte with its stop bit. -/
  | byte (b : Byte)
  /-- A byte with a framing error. -/
  | framingError
  /-- A gap of more than 20 ms from the end of one byte to the start of the next. -/
  | gap
  /-- The line held low for 2 or more character times. -/
  | lineBreak
  deriving DecidableEq, Repr

/-- The frame receiver takes one event: its next state, and the command that a frame is which ends here (R178). -/
def FrameRx.take : FrameRx → RxdEvent → FrameRx × Option Instr
  | _, .lineBreak => (.hunt, some .lineBreak)
  | .hunt, .byte b => (if b = 0xA6#8 then .length else .hunt, none)
  | .hunt, _ => (.hunt, none)
  | .length, .byte b =>
    if b.toNat = 0 ∨ 60 < b.toNat then (.hunt, some (.frameRejected .badLength)) else (.body b.toNat [], none)
  | .body n kept, .byte b => (if kept.length + 1 < n then .body n (kept ++ [b]) else .check (kept ++ [b]), none)
  | .check kept, .byte c => (.hunt, some (judgeFrame kept c))
  | _, .framingError => (.hunt, some (.frameRejected .framingError))
  | _, .gap => (.hunt, some .frameGapTimeout)

/-- A run of events on RXD: the receiver's state after them, and the commands they are, oldest first (R178). -/
def FrameRx.takeAll (r : FrameRx) : List RxdEvent → FrameRx × List Instr
  | [] => (r, [])
  | e :: es => (((r.take e).1.takeAll es).1, (r.take e).2.toList ++ ((r.take e).1.takeAll es).2)

/-- An event on RXD reaches a running part (R1, R178). -/
def State.rxd (e : RxdEvent) (s : State) : State :=
  if s.cond = .running then
    { s with
      hlk := { s.hlk with frameRx := (s.hlk.frameRx.take e).1 }
      pending := s.pending ++ (s.hlk.frameRx.take e).2.toList }
  else s

/-! ### The receiver of a pair (R65 to R69) -/

/-- The last 16 bits heard, newest first, are the sync pattern (R65). -/
def syncFound (newestFirst : List Bool) : Bool := newestFirst == (fieldBits syncPattern).reverse

/-- The last 15 of a run of bits received, newest first: what the next bit in HUNT is compared together with (R65). -/
def lastHeard (oldestFirst : List Bool) : List Bool := oldestFirst.reverse.take 15

/-- Back in HUNT after a sync and some bits of a message (R65, R66, R68, R69). -/
def backToHunt (afterSync : List Bool) : RxState := .hunt (lastHeard (fieldBits syncPattern ++ afterSync))

/-- The receiver passes to BODY with the header used, or discards the message (R66, R67). -/
def headerEnds (p : PortId) (header : List Bool) : RxState × Option Instr :=
  match judgeHeader (BitVec.ofNat 13 (bitsNat header)) with
  | .notCorrectable => (backToHunt header, some (.headerRejected p false))
  | .used data corrected =>
    if 12 < bodyLength data then (backToHunt header, some (.headerRejected p corrected)) else (.body header data corrected [], none)

/-- The message has arrived with its last check bit (R68). -/
def bodyEnds (p : PortId) (header : List Bool) (data : Byte) (corrected : Bool) (bits : List Bool) : RxState × Option Instr :=
  let bytes := bytesOf (bodyLength data + 1) bits
  (backToHunt (header ++ bits), some (judgeBody p data corrected (bytes.take (bodyLength data)) (bytes.getLastD 0#8)))

/-- The receiver of a port hears one bit: its next state, and the command that a message is which ends here (R65 to R68). -/
def RxState.hear (p : PortId) (b : Bool) : RxState → RxState × Option Instr
  | .gated => (.gated, none)
  | .hunt bits => (if syncFound (b :: bits) then .header [] else .hunt ((b :: bits).take 15), none)
  | .header bits => if bits.length + 1 < 13 then (.header (bits ++ [b]), none) else headerEnds p (bits ++ [b])
  | .body first data corrected bits =>
    if bits.length + 1 < 8 * (bodyLength data + 1) then (.body first data corrected (bits ++ [b]), none)
    else bodyEnds p first data corrected (bits ++ [b])

/-- The bit timing is lost: it cuts a message off in HEADER and in BODY, and has no effect elsewhere (R65, R69). -/
def RxState.loseTiming (p : PortId) : RxState → RxState × Option Instr
  | .header bits => (backToHunt bits, some (.messageCutOff p false))
  | .body first _ corrected bits => (backToHunt (first ++ bits), some (.messageCutOff p corrected))
  | r => (r, none)

/-- A run of bits on a pair: the receiver's state after them, and the commands they are, oldest first (R65 to R68). -/
def RxState.hearAll (p : PortId) (r : RxState) : List Bool → RxState × List Instr
  | [] => (r, [])
  | b :: bs => (((r.hear p b).1.hearAll p bs).1, (r.hear p b).2.toList ++ ((r.hear p b).1.hearAll p bs).2)

/-- A port's receiver takes its next state, and a message's command joins the queue (R63 to R69). -/
def State.received (p : PortId) (r : RxState × Option Instr) (s : State) : State :=
  { s.modPort p fun q => { q with rx := r.1 } with pending := s.pending ++ r.2.toList }

/-- A bit is heard on a pair; no receiver listens unless the part runs (R63, R65). -/
def State.pairBit (p : PortId) (b : Bool) (s : State) : State :=
  if s.cond = .running then s.received p ((s.port p).rx.hear p b) else s

/-- The bit timing is lost on a pair (R69). -/
def State.pairTimingLost (p : PortId) (s : State) : State :=
  if s.cond = .running then s.received p ((s.port p).rx.loseTiming p) else s

/-! ### What the part sends (R61, R62, R78, R80, R178, R181) -/

/-- The header data byte and the body of an order of the part; a wake pattern is no message (R61, R62). -/
def Sending.message : Sending → Option (Byte × List Byte)
  | .wakePattern => none
  | .feedState fed => some (0x91#8, [if fed then 0x01#8 else 0x00#8])
  | .cellOrder duration => some (0x81#8, [BitVec.ofNat 8 duration])

/-- The rate of the tone, in bit/s (R61). -/
def pairRate : Nat := 1200

/-- The time of a wake pattern, in ms (R61, R80). -/
def wakePatternTime : Nat := 250

/-- The bits that a sending puts on the pair: of a wake pattern a run of alternating bits for its time, the first a 1
(R61; notes/assumptions/23.md); of an order its message (R62). -/
def Sending.bits (x : Sending) : List Bool :=
  match x.message with
  | some (data, body) => messageBits data body
  | none => List.ofFn fun k : Fin (pairRate * wakePatternTime / 1000) => k.val % 2 == 0

/-- What a port's transmitter is sending on its pair; nothing while it is idle (R78). -/
def State.onPair (s : State) (p : PortId) : List Bool :=
  match (s.port p).tx.sending with
  | some x => x.bits
  | none => []

/-- The speed of the host line in bit/s, by the SPEED strap as sampled at the last power-on reset (R178). -/
def State.lineSpeed (s : State) : Nat := if s.straps.speedHigh then 115200 else 19200

/-- The bits of one character on the host line: a start bit, 8 data bits, no parity, 1 stop bit (R178, R181). -/
def charBits : Nat := 1 + 8 + 1

/-- The bits that a reply takes on TXD: m + 3 characters (R181). -/
def Reply.lineBits (r : Reply) : Nat := (r.body.length + 3) * charBits

end Sys2Proof.Machine
end

