-- ==== Sys2Proof/Safety.lean ====
section
/-! DEFINITION. What the manual promises of every state of the part: the invariants that the statements for the provers name.
Each is a plain conjunction over the state, so that it can be decided on a given one. -/

namespace Sys2Proof.Machine

/-- A number within a range, both ends included (Conventions). -/
abbrev Within (lo hi n : Nat) : Prop := lo ≤ n ∧ n ≤ hi

/-- No port stands twice in a list of ports. -/
abbrev Distinct (ps : List PortId) : Prop := ps.Pairwise (· ≠ ·)

/-! ### The host link -/

/-- A port kind's flag is pending exactly when its mask holds at least one port (R186). -/
abbrev State.EventsAgree (s : State) : Prop :=
  ∀ k ∈ portEvents, kindSet s.hlk.flags k.priority = (maskOf s.hlk.masks k != 0)

/-- The reply queue holds 0 to 4 replies (R181). -/
abbrev State.RepliesBounded (s : State) : Prop := s.hlk.replies.length ≤ 4

/-- The presence supervision by mode: outside OUTAGE it reads SUPERVISED and no window runs; in OUTAGE a window runs exactly
while it is SUPERVISED; the expected token is 1 or 2 (R190, R192). -/
abbrev State.PresenceSound (s : State) : Prop :=
  (s.hlk.token = 1 ∨ s.hlk.token = 2)
    ∧ (s.sup.mode ≠ .outage → s.hlk.supervision = .supervised ∧ s.hlk.window = .noWindow)
    ∧ (s.sup.mode = .outage → (s.hlk.supervision = .autonomous ↔ s.hlk.window = .noWindow))

/-! ### The settings and the account -/

/-- Every account parameter in its range, and the two consistency conditions (R20, R21). -/
abbrev ParamsInRange (g : AccountParams) : Prop :=
  Within 1 1000 g.ratedCapacity ∧ Within 50 100 g.depthLimit ∧ Within 1 72 g.targetDuration
    ∧ Within 100 2000 g.callCurrent ∧ Within 300 14400 g.reserveTime ∧ Within 0 2000 g.cabinetCurrent
    ∧ Within 0 10000 g.conserveLimit ∧ Within 1 8 g.slotCeiling ∧ Within 500 8000 g.bankCeiling
    ∧ Within 40000 48000 g.emptyThreshold ∧ Within 9000 14000 g.cellWeakVolt ∧ Within 9000 14000 g.cellFailVolt
    ∧ Within 50 5000 g.cellWeakRes ∧ Within 50 5000 g.cellFailRes ∧ Within 1 168 g.lineInterval
    ∧ g.cellFailVolt ≤ g.cellWeakVolt ∧ g.cellWeakRes ≤ g.cellFailRes

/-- Every profile field in its range (R42). -/
abbrev Profile.InRange (q : Profile) : Prop :=
  (q.wakeInterval = 0 ∨ Within 60 86400 q.wakeInterval) ∧ Within 10 1800 q.burstLimit ∧ Within 100 1500 q.feedLimit
    ∧ Within 1 90 q.cellInterval

/-- Profile area contents in their ranges (R168). -/
abbrev AreaContents.InRange (a : AreaContents) : Prop := (∀ p : PortId, a.profiles[p.val].InRange) ∧ ParamsInRange a.params

/-- What a save under way is writing (R171). -/
def Activity.area : Activity → Option AreaContents
  | .saving a => some a
  | _ => none

/-- The runtime copies and the stored copies of the settings stand in their ranges (R20, R42, R168, R171). -/
abbrev State.SettingsInRange (s : State) : Prop :=
  ParamsInRange s.cac.params ∧ (∀ p : PortId, (s.port p).profile.InRange)
    ∧ (∀ a ∈ s.nvs.area, a.InRange) ∧ ∀ a ∈ s.nvs.activity.area, a.InRange

/-- The figures CAC holds stand in the ranges of its table (R16), Q_used never above Q_limit (R25). -/
abbrev State.AccountInRange (s : State) : Prop :=
  Within 1800000 3600000000 s.cac.qLimit ∧ s.cac.qUsed ≤ s.cac.qLimit
    ∧ -30000 ≤ s.cac.heldCurrent ∧ s.cac.heldCurrent ≤ 30000
    ∧ s.cac.invalidRun ≤ 10 ∧ s.cac.lowBankRun ≤ 10 ∧ s.cac.promotion ≤ 59
    ∧ -39321000 ≤ s.cac.credit ∧ s.cac.credit ≤ 39321000

/-- The settings and the account together. -/
abbrev State.AccountSound (s : State) : Prop := s.SettingsInRange ∧ s.AccountInRange

/-! ### The outage cycle -/

/-- What the mode says of the supervisor and the account: outside OUTAGE E is 0, the stage NONE, the candidate absent, the
credit, the promotion count and the low-bank run 0, the watch and the return confirmation idle, the forced mark clear; outside
STANDBY the loss and the float confirmation are idle (R2, R3, R11, R12, R16, R26, R27, R30, R32, R33). -/
abbrev State.ModeSound (s : State) : Prop :=
  (s.sup.mode ≠ .outage →
    s.sup.outageTime = 0 ∧ s.cac.stage = .noStage ∧ s.cac.candidate = none ∧ s.cac.credit = 0 ∧ s.cac.promotion = 0
      ∧ s.cac.lowBankRun = 0 ∧ s.sup.returnConf = none ∧ s.sup.bankWatch = none ∧ s.sup.forced = false)
    ∧ (s.sup.mode ≠ .standby → s.sup.lossConf = none ∧ s.cac.float = .idle)
    ∧ (s.cond ≠ .running → s.sup.mode = .start)

/-! ### The store -/

/-- Whether the store is reading at the start (R176). -/
def Activity.isRecovering : Activity → Bool
  | .recovering => true
  | _ => false

/-- Whether nothing is under way at the store (R168). -/
def Activity.isIdle : Activity → Bool
  | .idle => true
  | _ => false

/-- Whether a checkpoint is being written (R168). -/
def Activity.isWriting : Activity → Bool
  | .writingCheckpoint _ => true
  | _ => false

/-- The shape of the store's runtime state: it recovers exactly in START; a pending checkpoint stands behind an operation, a
waiting save behind a checkpoint write; the timer is idle exactly in START; the slot being written and the area being saved
hold nothing valid (R168, R170, R173 to R176). -/
abbrev State.StoreSound (s : State) : Prop :=
  s.nvs.activity.isRecovering = (s.sup.mode == .start)
    ∧ (s.nvs.pendingCp = true → s.nvs.activity.isWriting ∨ s.nvs.activity.isSaving)
    ∧ (s.nvs.waitingSave = true → s.nvs.activity.isWriting)
    ∧ s.nvs.cpTimer.isNone = (s.sup.mode == .start)
    ∧ s.nvs.lastSlot < 32
    ∧ (s.nvs.activity.isWriting → s.nvs.ring[s.nvs.lastSlot]? = some none ∧ s.nvs.ringUnread = false)
    ∧ (s.nvs.activity.isSaving → s.nvs.area = none)

/-! ### The ports -/

/-- Whether a test is under way on a port (R140). -/
def CellPhase.running : CellPhase → Bool
  | .noTest => false
  | _ => true

/-- The shape of one port's record by its state: OFF exactly when not enabled once START has ended, and in START in any case
(R44); the receiver gated exactly while OFF, in LINE_TEST or sending (R64), an OFF or LINE_TEST port's transmitter empty (R81);
the switch closed exactly while FED, its timers idle while open (R126, R127); a backoff exactly in RETRY (R135); a cell test
exactly in CELL_TEST, which is met in STANDBY alone, with its duration, and the report timer in LOADING only (R140, R146); the
check-in timer in WAKING only (R89, R92); an OFF port's marks clear and timers stopped (R55, R60). -/
abbrev Port.Sound (m : Mode) (q : Port) : Prop :=
  (m = .start → q.state = .off)
    ∧ (m ≠ .start → (q.state = .off ↔ q.profile.enabled = false))
    ∧ (q.rx = .gated ↔ q.state.silent ∨ q.tx.sending.isSome)
    ∧ (q.state.silent → q.tx = {})
    ∧ (q.switch.closed = true ↔ q.state = .fed)
    ∧ (q.switch.closed = false → q.switch.blanking = none ∧ q.switch.overload = none ∧ q.switch.clean = none)
    ∧ (q.switch.backoff.isSome ↔ q.state = .retry)
    ∧ q.switch.trips ≤ 4 ∧ q.switch.samples.length = 10 ∧ q.switch.average ≤ 3000 ∧ (∀ x ∈ q.switch.samples, x ≤ 3000)
    ∧ (q.cell.phase.running = true ↔ q.state = .cellTest)
    ∧ (q.cell.duration.isSome ↔ q.cell.phase.running = true)
    ∧ (q.cell.report.isSome → q.cell.phase = .loading)
    ∧ (q.state = .cellTest → m = .standby)
    ∧ (q.checkin.isSome → q.state = .waking)
    ∧ (q.state = .off → q.term = .unknown ∧ q.hold = false ∧ q.standbyFeed = false ∧ q.cellLow = false ∧ q.burst = none
        ∧ q.silence = none)
    ∧ (m ≠ .outage → q.cellLow = false)
    ∧ (m = .outage → q.standbyFeed = false)

/-- Every port's record has its shape. -/
abbrev State.PortsShaped (s : State) : Prop := ∀ p : PortId, (s.port p).Sound s.sup.mode

/-- A list that stands in an order, strictly. -/
abbrev Ordered {α : Type} (before : α → α → Bool) (xs : List α) : Prop := xs.Pairwise fun a b => before a b = true

/-- The feed queue: in its order, one entry for each QUEUED port and for no other, each at its port's level, its arrival a number that the
order counter has given, which does not pass its end (R103 to R105, R114). -/
abbrev State.QueueSound (s : State) : Prop :=
  Ordered QueueEntry.before s.fga.queue ∧ Distinct (s.fga.queue.map (·.port))
    ∧ (∀ e ∈ s.fga.queue, (s.port e.port).level = some e.level ∧ e.arrival ≤ s.fga.counter) ∧ s.fga.counter ≤ maxU32
    ∧ ∀ p : PortId, (s.port p).state = .queued ↔ p ∈ s.fga.queue.map (·.port)

/-- The grant set: in its order, one record for each FED port and for no other, each at its port's level (R104, R106,
R114). -/
abbrev State.GrantsSound (s : State) : Prop :=
  Ordered Grant.before s.fga.grants ∧ Distinct (s.fga.grants.map (·.port))
    ∧ (∀ g ∈ s.fga.grants, (s.port g.port).level = some g.level ∧ g.number ≤ s.fga.counter)
    ∧ ∀ p : PortId, (s.port p).state = .fed ↔ p ∈ s.fga.grants.map (·.port)

/-- The number of FED ports never exceeds the slot ceiling, nor the sum of the granted limits the bank feed ceiling (R106). -/
abbrev State.CeilingsHold (s : State) : Prop :=
  s.fga.grants.length ≤ s.cac.params.slotCeiling ∧ s.fga.limitSum ≤ s.cac.params.bankCeiling

/-- In RESERVE every grant and entry is at P1, or at P2 with a host hold; in EXHAUSTED there is none (R107, R110, R115); in
CONSERVE no P4 or P5 grant stands while the credit is 0 or less (R110, R114 to R116); in STANDBY a port is queued or fed for a
host hold or a standby feed alone (R107, R122, R136). -/
abbrev State.StageObeyed (s : State) : Prop :=
  (∀ e ∈ s.fga.queue, admits s.eff e.level (s.port e.port).hold = true)
    ∧ (∀ g ∈ s.fga.grants, admits s.eff g.level (s.port g.port).hold = true)
    ∧ (s.eff = .conserve → s.cac.credit ≤ 0 → ∀ g ∈ s.fga.grants, g.level.onCredit = false)
    ∧ (s.sup.mode = .standby → ∀ p : PortId, (s.port p).state = .queued ∨ (s.port p).state = .fed →
        (s.port p).hold = true ∨ (s.port p).standbyFeed = true)

/-- The wake list: in its order, one entry at most for each port, only for enabled ports with an effective interval, and only
in OUTAGE (R84, R86). -/
abbrev State.WakesSound (s : State) : Prop :=
  Ordered WakeEntry.before s.wakes ∧ Distinct (s.wakes.map (·.port))
    ∧ (s.sup.mode ≠ .outage → s.wakes = [])
    ∧ ∀ e ∈ s.wakes, (s.port e.port).profile.enabled = true ∧ (s.interval e.port).isSome ∧ e.due ≤ maxU32

/-- The instrument and the locks: a port is in LINE_TEST exactly while the instrument is connected to it (R159); a lock reason
stands exactly on the ports of the lockout mask (R47); the test queue holds one entry at most for each port, and only for
enabled ports; in START it is empty (R55, R155, R156). -/
abbrev State.TestsSound (s : State) : Prop :=
  (∀ p : PortId, (s.port p).state = .lineTest ↔ s.pdi.instrument.map (·.port) = some p)
    ∧ (∀ p : PortId, (s.port p).lockReason.isSome = s.locked p)
    ∧ Distinct (s.pdi.queue.map (·.port))
    ∧ (s.sup.mode = .start → s.pdi.queue = [])
    ∧ ∀ e ∈ s.pdi.queue, (s.port e.port).profile.enabled = true

/-- Everything the manual promises of the ports and of what the blocks hold for them, together: each part leans on the others. -/
abbrev State.PortsSound (s : State) : Prop :=
  s.PortsShaped ∧ s.QueueSound ∧ s.GrantsSound ∧ s.CeilingsHold ∧ s.StageObeyed ∧ s.WakesSound ∧ s.TestsSound
    ∧ s.ModeSound

end Sys2Proof.Machine
end

