-- ==== Sys2Proof/WellFormed.lean ====
section
/-! DEFINITION. The commands that the outside can send: each operand within the width that its frame or its message gives it
(R62, R77, R178 to R180). A meaning is given to every command, well-formed or not. -/

namespace Sys2Proof

/-- A number of one byte. -/
def fitsByte (n : Nat) : Bool := n < 256

/-- A number of two bytes. -/
def fitsTwo (n : Nat) : Bool := n < 65536

/-- A number of four bytes. -/
def fitsFour (n : Nat) : Bool := n < 4294967296

/-- The fifteen parameters as SET_ACCOUNT_PARAMS carries them (R180). -/
def AccountParams.fits (g : AccountParams) : Bool :=
  fitsTwo g.ratedCapacity && fitsByte g.depthLimit && fitsByte g.targetDuration && fitsTwo g.callCurrent
    && fitsTwo g.reserveTime && fitsTwo g.cabinetCurrent && fitsTwo g.conserveLimit && fitsByte g.slotCeiling
    && fitsTwo g.bankCeiling && fitsTwo g.emptyThreshold && fitsTwo g.cellWeakVolt && fitsTwo g.cellFailVolt
    && fitsTwo g.cellWeakRes && fitsTwo g.cellFailRes && fitsByte g.lineInterval

/-- The data of a SET_PROFILE as its frame carries them (R180). -/
def ProfileRequest.fits (g : ProfileRequest) : Bool :=
  fitsByte g.port && fitsByte g.enabled && fitsByte g.cls && fitsFour g.wakeInterval && fitsTwo g.burstLimit
    && fitsByte g.feedOnWake && fitsTwo g.feedLimit && fitsByte g.cellInterval

/-- Whether a command carries operands that its frame, its message or its event can carry. An UNKNOWN_REQUEST carries at most 59
data bytes and is no request of the catalogue (R178, R181). -/
def Instr.wellFormed : Instr → Bool
  | .setAccountParams g => g.fits
  | .setProfile g => g.fits
  | .getPort n => fitsByte n
  | .clearLockout n => fitsByte n
  | .getNotice n => fitsByte n
  | .getSchedule n => fitsByte n
  | .wake n u => fitsByte n && fitsByte u
  | .feed n => fitsByte n
  | .release n => fitsByte n
  | .lineTest n => fitsByte n
  | .cellTest n d => fitsByte n && fitsByte d
  | .presence token => fitsByte token
  | .unknownRequest code data => data.length ≤ 59 && requestOf code data == .unknownRequest code data
  | .checkin _ _ _ _ volts => fitsTwo volts
  | .cellReport _ _ vOpen vLoaded iLoad => fitsTwo vOpen && fitsTwo vLoaded && fitsTwo iLoad
  | .vbankStart _ _ => true
  | .vbankStop => true
  | .rstnLow => true
  | .rstnHigh _ _ => true
  | .partTimeTick => true
  | .outageTimeTick => true
  | .recoveryEnd => true
  | .recoveryTimeout _ => true
  | .mainsFall => true
  | .mainsRise => true
  | .lossConfirmationExpiry => true
  | .returnConfirmationExpiry => true
  | .bankLowFall => true
  | .bankLowReturn => true
  | .bankLowWatchExpiry => true
  | .accountSample _ _ _ => true
  | .floatRise => true
  | .floatFall => true
  | .floatConfirmationExpiry => true
  | .frameRejected _ => true
  | .frameGapTimeout => true
  | .lineBreak => true
  | .replySent => true
  | .getIdentity => true
  | .getStatus => true
  | .getAccount => true
  | .accountReset => true
  | .getEvents => true
  | .clearEvents _ _ => true
  | .setEventEnable _ => true
  | .saveProfiles => true
  | .restart => true
  | .presenceEarlyBound => true
  | .presenceWindowExpiry => true
  | .notice _ _ _ _ => true
  | .lineMessageDiscarded _ _ => true
  | .headerRejected _ _ => true
  | .checkFailure _ _ => true
  | .messageCutOff _ _ => true
  | .transmitBegin _ => true
  | .wakePatternEnd _ => true
  | .feedStateEnd _ => true
  | .cellTestOrderEnd _ => true
  | .wakeDue _ => true
  | .checkinTimerExpiry _ => true
  | .awakeSilenceExpiry _ => true
  | .burstTimerExpiry _ => true
  | .feedCurrentSample _ => true
  | .shortDetected _ => true
  | .overloadRise _ => true
  | .overloadFall _ => true
  | .overloadTimerExpiry _ => true
  | .inrushBlankingExpiry _ _ => true
  | .cleanFeedExpiry _ => true
  | .retryExpiry _ => true
  | .cellTestDue _ => true
  | .reportTimerExpiry _ => true
  | .periodicTestDue _ => true
  | .lineTestTake => true
  | .lineTestPhaseEnd _ _ => true
  | .lineTestComplete _ _ => true
  | .saveEnd _ => true
  | .checkpointTimerExpiry => true
  | .checkpointWriteEnd _ => true

end Sys2Proof
end

