-- ==== Sys2Proof/Certificates/Slice0/Obligations.lean ====
section
/-! DEFINITION. The statements for the provers. Each formalises rules of the manual, which OBLIGATIONS.json names; the words the
statements share stand first. -/

namespace Sys2Proof.Claims

open Sys2Proof.Machine

/-! ### Shared words -/

/-- A counter of 16 bits increased by 1, saturating (R47). -/
def up (n : Nat) : Nat := if n < 65535 then n + 1 else n

/-- A due time: now plus an interval, saturating (R84, R140, R155). -/
def later (now interval : Nat) : Nat := min 4294967295 (now + interval)

/-- Whether an event kind is pending, by its priority number (R186). -/
abbrev pending (s : State) (priority : Nat) : Prop := s.hlk.flags.getLsbD (priority - 1) = true

/-- A plain event raised, by its priority number (R186). -/
def raised (h : Hlk) (priority : Nat) : Hlk := { h with flags := h.flags ||| BitVec.twoPow 17 (priority - 1) }

/-- AWAKE if the terminal is awake or in a call, IDLE otherwise (R113). -/
def restState (q : Port) : PortState := if q.term = .awake ∨ q.term = .call then .awake else .idle

/-- The port has no place in the feed queue and no grant (R105, R106). -/
abbrev unfed (s : State) (p : PortId) : Prop :=
  p ∉ s.fga.queue.map (·.port) ∧ p ∉ s.fga.grants.map (·.port)

/-- The part runs past START and takes a request: no RESTART was taken and the reply queue has room (R179, R181, R185, R3). -/
abbrev takes (s : State) : Prop :=
  s.cond = .running ∧ s.hlk.restarting = false ∧ s.hlk.replies.length < 4 ∧ s.sup.mode ≠ .start

/-- A state with one reply built at its end (R180 to R182). -/
def replied (u : State) (code : Nat) (r : Result) (data : List Byte) : State :=
  { u with hlk := { u.hlk with
      priorFault := false
      replies := u.hlk.replies ++
        [{ code := BitVec.ofNat 8 (code + 0x80), status := u.linkStatus, result := r, data := data }] } }

/-- A port state as a reply carries it: its position in the table of R44 (R182). -/
def stateByte (s : State) (p : PortId) : List Byte := [BitVec.ofNat 8 (s.port p).state.code]

/-- The catalogue of R180 as the part judges it: the code of a request, and whether START answers it (R3). -/
def catalogue : Instr → Option (Nat × Bool)
  | .getIdentity => some (0x01, true)
  | .getStatus => some (0x02, true)
  | .getAccount => some (0x03, false)
  | .setAccountParams _ => some (0x04, false)
  | .accountReset => some (0x05, false)
  | .getPort _ => some (0x10, false)
  | .setProfile _ => some (0x11, false)
  | .clearLockout _ => some (0x12, false)
  | .getNotice _ => some (0x13, false)
  | .getSchedule _ => some (0x14, false)
  | .wake _ _ => some (0x20, false)
  | .feed _ => some (0x21, false)
  | .release _ => some (0x22, false)
  | .lineTest _ => some (0x30, false)
  | .cellTest _ _ => some (0x31, false)
  | .getEvents => some (0x40, false)
  | .clearEvents _ _ => some (0x41, false)
  | .setEventEnable _ => some (0x42, false)
  | .presence _ => some (0x50, false)
  | .saveProfiles => some (0x60, false)
  | .restart => some (0x61, false)
  | _ => none

/-! The data of the replies that report, figure by figure in the order of the rules (R14, R40, R59, R76, R177, R183, R184, R188). The
coding is that of R182; where R182 leaves it open it is that of notes/assumptions/11.md, 12.md and 13.md. -/

/-- A number in `w` bytes, most significant first (R182). -/
def big (w n : Nat) : List Byte := (List.range w).map fun k => BitVec.ofNat 8 (n / 256 ^ (w - 1 - k))

/-- A signed figure in `w` bytes of two's complement (R182). -/
def bigSigned (w : Nat) (i : Int) : List Byte := big w (i % ((256 ^ w : Nat) : Int)).toNat

/-- A yes-no figure, a mark or a level (notes/assumptions/11.md). -/
def yes (b : Bool) : List Byte := if b then [1#8] else [0#8]

/-- An optional figure of `w` bytes: a presence byte, then the value or zeros (R182). -/
def maybe {α : Type} (w : Nat) (enc : α → List Byte) : Option α → List Byte
  | some x => 1#8 :: enc x
  | none => 0#8 :: List.replicate w 0#8

/-- An enumeration: the position of the value in the list where the manual first gives it (R182). -/
def placeIn {α : Type} [DecidableEq α] (values : List α) (x : α) : List Byte := big 1 (values.idxOf x)

/-- The figures of SUP (R14). -/
def supBytes (s : State) : List Byte :=
  placeIn [Mode.start, .standby, .outage] s.sup.mode ++ big 4 s.sup.partTime ++ big 4 s.sup.outageTime ++ big 4 s.sup.lastOutage
    ++ yes s.pins.mains ++ maybe 2 (big 2) s.sup.lossConf ++ maybe 1 (big 1) s.sup.returnConf
    ++ maybe 1 (big 1) s.sup.bankWatch ++ yes s.sup.forced

/-- A stage, and an effective stage (R182). -/
def stageByte (st : Stage) : List Byte := placeIn [Stage.noStage, .openStage, .conserve, .reserve, .exhausted] st

def effByte (e : EffStage) : List Byte := placeIn [EffStage.standby, .openStage, .conserve, .reserve, .exhausted] e

/-- The figures of NVS (R177). -/
def nvsBytes (s : State) : List Byte :=
  big 1 (match s.nvs.activity with
      | .idle => 0
      | .recovering => 1
      | .writingCheckpoint _ => 2
      | .saving _ => 3)
    ++ yes s.nvs.waitingSave ++ yes s.nvs.pendingCp ++ placeIn [SaveResult.noSave, .done, .failed] s.nvs.saveResult
    ++ placeIn [AreaState.good, .bad] s.nvs.areaAtStart ++ big 1 s.nvs.lastSlot ++ big 4 s.nvs.highSequence
    ++ maybe 2 (big 2) s.nvs.cpTimer

/-- The kind of the presence window, whether its early bound has passed, and its remaining seconds (R183, R190). -/
def windowBytes : Window → List Byte
  | .long n => [0#8, 0#8, 1#8] ++ big 2 n
  | .normal n early => [1#8, if early = 0 then 1#8 else 0#8, 1#8] ++ big 2 n
  | .noWindow => [2#8, 0#8, 0#8, 0#8, 0#8]

/-- The data of GET_STATUS (R183). -/
def statusBytes (s : State) : List Byte :=
  supBytes s ++ stageByte s.cac.stage ++ effByte s.eff ++ nvsBytes s
    ++ placeIn [Supervision.supervised, .autonomous] s.hlk.supervision ++ big 1 s.hlk.token ++ windowBytes s.hlk.window
    ++ big 1 (s.hlk.replies.length + 1)

/-- The fifteen account parameters (R180, R21). -/
def paramsBytes (g : AccountParams) : List Byte :=
  big 2 g.ratedCapacity ++ big 1 g.depthLimit ++ big 1 g.targetDuration ++ big 2 g.callCurrent ++ big 2 g.reserveTime
    ++ big 2 g.cabinetCurrent ++ big 2 g.conserveLimit ++ big 1 g.slotCeiling ++ big 2 g.bankCeiling
    ++ big 2 g.emptyThreshold ++ big 2 g.cellWeakVolt ++ big 2 g.cellFailVolt ++ big 2 g.cellWeakRes
    ++ big 2 g.cellFailRes ++ big 1 g.lineInterval

/-- The data of GET_ACCOUNT (R40). -/
def accountBytes (s : State) : List Byte :=
  paramsBytes s.cac.params ++ big 4 s.cac.qLimit ++ big 4 s.cac.qUsed
    ++ maybe 2 (fun x : Figures => big 2 x.volts) s.cac.figures ++ maybe 2 (fun x : Figures => bigSigned 2 x.amps) s.cac.figures
    ++ maybe 1 (fun x : Figures => yes x.wasHeld) s.cac.figures
    ++ big 1 s.cac.invalidRun ++ yes s.cac.uncertain ++ big 1 s.cac.lowBankRun
    ++ big 1 (match s.cac.float with
        | .idle => 0
        | .running _ => 1
        | .confirmed => 2)
    ++ maybe 4 (fun x : Figures => big 4 x.usable) s.cac.figures ++ maybe 4 (fun x : Figures => big 4 x.reserve) s.cac.figures
    ++ maybe 4 (fun x : Figures => big 4 x.spendable) s.cac.figures ++ maybe 4 (fun x : Figures => big 4 x.horizon) s.cac.figures
    ++ maybe 2 (fun x : Figures => big 2 x.allowance) s.cac.figures ++ maybe 4 (fun x : Figures => big 4 x.cap) s.cac.figures
    ++ maybe 2 (fun x : Figures => big 2 x.drawn) s.cac.figures ++ maybe 1 (fun x : Figures => big 1 x.lifelines) s.cac.figures
    ++ bigSigned 4 s.cac.credit ++ stageByte s.cac.stage ++ maybe 1 stageByte s.cac.candidate ++ big 1 s.cac.promotion
    ++ effByte s.eff

/-- The seven profile fields (R180, R51). -/
def profileBytes (g : Profile) : List Byte :=
  yes g.enabled ++ big 1 (match g.cls with
      | .lifeline => 1
      | .standard => 2
      | .deferred => 3)
    ++ big 4 g.wakeInterval ++ big 2 g.burstLimit ++ yes g.feedOnWake ++ big 2 g.feedLimit ++ big 1 g.cellInterval

/-- A cell record (R48), a line verdict (R49) and a level (R104). -/
def cellRecordBytes (k : CellRecord) : List Byte :=
  placeIn [CellVerdict.good, .weak, .failed, .noResponse, .invalid] k.verdict
    ++ maybe 2 (fun r : CellReport => big 2 r.vOpen) k.report ++ maybe 2 (fun r : CellReport => big 2 r.vLoaded) k.report
    ++ maybe 2 (fun r : CellReport => big 2 r.iLoad) k.report ++ maybe 2 (big 2) k.resistance ++ big 4 k.time

def verdictByte (v : LineVerdict) : List Byte :=
  placeIn [LineVerdict.normal, .openPair, .crossed, .pairShort, .shortHigh, .shortLow, .indeterminate] v

def levelByte (l : Level) : List Byte := placeIn [Level.p1, .p2, .p3, .p4, .p5] l

/-- A port state (R44). -/
def portStateByte (st : PortState) : List Byte :=
  placeIn [PortState.off, .idle, .waking, .awake, .queued, .fed, .cellTest, .lineTest, .retry, .locked] st

/-- The runtime fields of a port (R43). -/
def runtimeBytes (q : Port) : List Byte :=
  portStateByte q.state ++ placeIn [TermState.unknown, .sleep, .awake, .call] q.term
    ++ maybe 6 (fun i : BitVec 48 => big 6 i.toNat) q.identity ++ maybe 2 (big 2) q.cellVolts ++ yes q.cellLow ++ yes q.hold
    ++ yes q.standbyFeed ++ maybe 2 (big 2) q.burst ++ maybe 1 (big 1) q.silence ++ maybe 1 (big 1) q.checkin ++ big 1 q.missed
    ++ maybe 1 (placeIn [LockReason.repeatedTrip, .lineFault, .recovered]) q.lockReason
    ++ maybe 17 cellRecordBytes q.cellRecord
    ++ maybe 5 (fun r : LineRecord => verdictByte r.verdict ++ big 4 r.time) q.lineRecord
    ++ maybe 1 (fun a : LineAttempt =>
        match a with
        | .verdict v => verdictByte v
        | .aborted => big 1 7) q.lineAttempt
    ++ big 2 q.counters.good ++ big 2 q.counters.corrected ++ big 2 q.counters.uncorrectable ++ big 2 q.counters.checkFailed
    ++ big 2 q.counters.cutOff ++ maybe 1 (placeIn [TripKind.short, .overload]) q.tripKind ++ big 2 q.tripsTotal

/-- The data of GET_PORT (R59). -/
def portBytes (s : State) (p : PortId) : List Byte :=
  let q := s.port p
  profileBytes q.profile ++ runtimeBytes q ++ yes (decide (q.term = .call)) ++ yes (s.lockoutMask.getLsbD p.val)
    ++ maybe 4 (big 4) (s.wakeOf p)
    ++ maybe 9 (fun e : QueueEntry => levelByte e.level ++ big 4 e.arrival ++ big 4 e.time)
        (s.fga.queue.find? fun e => e.port == p)
    ++ maybe 7 (fun g : Grant => big 2 g.limit ++ levelByte g.level ++ big 4 g.time) (s.fga.grants.find? fun g => g.port == p)
    ++ big 1 q.switch.trips ++ maybe 1 (big 1) q.switch.backoff ++ big 2 q.switch.average
    ++ yes (decide (p ∈ s.pdi.queue.map (·.port)))
    ++ maybe 1 (fun x : LineTest => portStateByte (if x.borrowed = .fromIdle then .idle else .locked))
        (s.pdi.instrument.filter fun x => x.port == p)
    ++ big 4 q.periodicDue ++ big 4 q.cell.due ++ yes q.mailbox.held.isSome ++ yes q.mailbox.overrun

/-- `n` places of a list, an unused one reading as port 0xFF and zeros (R184). -/
def placesOf {α : Type} (n w : Nat) (enc : α → List Byte) (xs : List α) : List Byte :=
  (List.range n).flatMap fun k =>
    match xs[k]? with
    | some x => enc x
    | none => 0xFF#8 :: List.replicate w 0#8

/-- The data of GET_SCHEDULE by part (R184). -/
def scheduleBytes (s : State) : Nat → List Byte
  | 0 => big 1 s.wakes.length ++ placesOf 16 4 (fun e : WakeEntry => big 1 e.port.val ++ big 4 e.due) s.wakes
  | 1 =>
    big 1 s.fga.queue.length
      ++ placesOf 16 9 (fun e : QueueEntry => big 1 e.port.val ++ levelByte e.level ++ big 4 e.arrival ++ big 4 e.time)
          s.fga.queue
      ++ big 1 s.fga.grants.length ++ big 1 (allPorts.filter fun p => (s.port p).state == .fed).length
      ++ big 2 (s.fga.grants.map (·.limit)).sum
      ++ placesOf 8 7 (fun g : Grant => big 1 g.port.val ++ levelByte g.level ++ big 2 g.limit ++ big 4 g.time) s.fga.grants
  | _ =>
    big 1 s.pdi.queue.length
      ++ placesOf 16 5 (fun e : TestEntry =>
          big 1 e.port.val ++ placeIn [TestSource.host, .missedCheckin, .repeatedTrip, .periodic] e.source ++ big 4 e.time)
          s.pdi.queue
      ++ (match s.pdi.instrument with
          | some x => 1#8 :: big 1 x.port.val
          | none => [0#8, 0xFF#8])

/-- The nine port masks in priority order (R186, R188). -/
def masksBytes (m : PortMasks) : List Byte :=
  big 2 m.callStart.toNat ++ big 2 m.lockout.toNat ++ big 2 m.trip.toNat ++ big 2 m.missedCheckin.toNat ++ big 2 m.callEnd.toNat
    ++ big 2 m.terminalChanged.toNat ++ big 2 m.noticeWaiting.toNat ++ big 2 m.lineTestDone.toNat ++ big 2 m.cellTestDone.toNat

/-- The data of GET_EVENTS (R188). -/
def eventsBytes (s : State) : List Byte :=
  big 3 s.hlk.flags.toNat ++ big 3 s.hlk.enables.toNat ++ masksBytes s.hlk.masks
    ++ (match firstEvent s.hlk with
        | some (n, some p) => big 1 n ++ big 1 p.val
        | some (n, none) => big 1 n ++ [0xFF#8]
        | none => [0#8, 0xFF#8])

/-- The data of GET_NOTICE: the notice, its code followed by the raw code of a notice OTHER, and the overrun flag (R76). -/
def noticeBytes (m : Mailbox) : List Byte :=
  maybe 8 (fun n : Notice =>
      [n.code] ++ (if n.code = 0#8 ∨ 6 < n.code.toNat then [1#8, n.code] else [0#8, 0#8]) ++ [n.detail] ++ big 4 n.time) m.held
    ++ yes m.overrun

/-- The data of a request of the catalogue, as they follow its code in a frame (R180). That numbers, kind sets and port masks stand
most significant byte first in them is the model's inference (notes/assumptions/27.md). -/
def requestData : Instr → List Byte
  | .setAccountParams g => paramsData g
  | .getPort n => u8 n
  | .setProfile g =>
    u8 g.port ++ u8 g.enabled ++ u8 g.cls ++ u32 g.wakeInterval ++ u16 g.burstLimit ++ u8 g.feedOnWake ++ u16 g.feedLimit
      ++ u8 g.cellInterval
  | .clearLockout n => u8 n
  | .getNotice n => u8 n
  | .getSchedule n => u8 n
  | .wake n u => u8 n ++ u8 u
  | .feed n => u8 n
  | .release n => u8 n
  | .lineTest n => u8 n
  | .cellTest n d => u8 n ++ u8 d
  | .clearEvents kinds m => u24 kinds.toNat ++ masksData m
  | .setEventEnable kinds => u24 kinds.toNat
  | .presence n => u8 n
  | _ => []

/-- A request frame: the start byte, the length, the body and the check byte (R180). -/
def requestFrame (code : Nat) (data : List Byte) : List Byte :=
  let counted := BitVec.ofNat 8 (data.length + 1) :: BitVec.ofNat 8 code :: data
  0xA6#8 :: counted ++ [checkByte counted]

/-- What being stopped or held leaves of the part: the switches open, nothing sent and no receiver listening, ATTN released, no
clock counting; the store's contents and the waiting commands kept (R1). -/
def dark (s t : State) : Prop :=
  (∀ p : PortId, (t.port p).switch.closed = false ∧ (t.port p).tx.sending = none ∧ (t.port p).rx = .gated)
    ∧ t.attn = false ∧ t.nvs.area = s.nvs.area ∧ t.nvs.ring = s.nvs.ring ∧ t.pending = s.pending
    ∧ exec .partTimeTick t = .next t ∧ exec .outageTimeTick t = .next t

/-- The supervisor after either reset (R2). -/
def freshSup (u : Sup) : Prop :=
  u.mode = .start ∧ u.partTime = 0 ∧ u.outageTime = 0 ∧ u.lossConf = none ∧ u.returnConf = none ∧ u.bankWatch = none
    ∧ u.forced = false ∧ u.lastOutage = 0

/-- The account after either reset, as far as its table gives values before the end of START (R16). -/
def freshCac (c : Cac) : Prop :=
  c.heldCurrent = 0 ∧ c.invalidRun = 0 ∧ c.uncertain = false ∧ c.lowBankRun = 0 ∧ c.float = .idle ∧ c.figures = none
    ∧ c.credit = 0 ∧ c.stage = .noStage ∧ c.candidate = none ∧ c.promotion = 0

/-- A port after either reset (R43, R44, R63, R75, R78, R103, R125, R140). -/
def freshPort (p : PortId) (q : Port) : Prop :=
  q.state = .off ∧ q.term = .unknown ∧ q.identity = none ∧ q.cellVolts = none ∧ q.cellLow = false ∧ q.hold = false
    ∧ q.standbyFeed = false ∧ q.burst = none ∧ q.silence = none ∧ q.checkin = none ∧ q.missed = 0 ∧ q.lockReason = none
    ∧ q.cellRecord = none ∧ q.lineRecord = none ∧ q.lineAttempt = none ∧ q.counters = ⟨0, 0, 0, 0, 0⟩ ∧ q.tripKind = none
    ∧ q.tripsTotal = 0 ∧ q.mailbox = ⟨none, false⟩ ∧ q.rx = .gated ∧ q.tx = ⟨false, none, none, none⟩
    ∧ q.switch = ⟨false, [0, 0, 0, 0, 0, 0, 0, 0, 0, 0], 0, none, none, none, 0, none⟩
    ∧ q.cell = ⟨3600 + 600 * p.val, .noTest, none, none⟩

/-- The part after either reset: every block at the values its table gives (R2, R16, R43, R84, R103, R155, R168, R178, R179,
R181, R186, R190). -/
def fresh (s t : State) : Prop :=
  t.cond = .running ∧ freshSup t.sup ∧ freshCac t.cac ∧ (∀ p : PortId, freshPort p (t.port p)) ∧ t.wakes = []
    ∧ t.fga = ⟨[], [], 0⟩ ∧ t.pdi = ⟨none, []⟩
    ∧ t.nvs.activity = .recovering ∧ t.nvs.waitingSave = false ∧ t.nvs.pendingCp = false ∧ t.nvs.cpTimer = none
    ∧ t.nvs.saveResult = .noSave ∧ t.nvs.area = s.nvs.area ∧ t.nvs.ring = s.nvs.ring
    ∧ t.hlk.frameRx = .hunt ∧ t.hlk.priorFault = false ∧ t.hlk.replies = [] ∧ t.hlk.restarting = false
    ∧ t.hlk.flags = BitVec.twoPow 17 16 ∧ t.hlk.enables = BitVec.allOnes 17 ∧ t.hlk.masks = ⟨0, 0, 0, 0, 0, 0, 0, 0, 0⟩
    ∧ t.hlk.supervision = .supervised ∧ t.hlk.token = 1 ∧ t.hlk.window = .noWindow
    ∧ t.pending = s.pending

/-- The figures of one account sample, as R24 to R32 form them from the state before it. -/
structure Sample where
  volts     : Nat
  amps      : Int
  limit     : Nat
  run       : Nat
  used      : Nat
  usable    : Nat
  reserve   : Nat
  spendable : Nat
  horizon   : Nat
  allowance : Nat
  drawn     : Nat

/-- The 1 s averages of the FED ports of class STANDARD, summed (R30). -/
def drawnNow (s : State) : Nat :=
  ((allPorts.filter fun p => (s.port p).state == .fed && (s.port p).profile.cls == .standard).map
    fun p => (s.port p).switch.average).sum

/-- The number of LIFELINE ports enabled and neither LOCKED nor in LINE_TEST borrowed from LOCKED (R50). -/
def lifelinesNow (s : State) : Nat :=
  (allPorts.filter fun p =>
    (s.port p).profile.cls == .lifeline && (s.port p).profile.enabled && (s.port p).state != .locked
      && !((s.port p).state == .lineTest && s.pdi.instrument.map (·.borrowed) == some .fromLocked)).length

/-- The sample of a voltage, a current and whether the current converted (R18, R19, R24 to R29). -/
def sampleOf (s : State) (volts amps : Int) (valid : Bool) : Sample :=
  let g := s.cac.params
  let v : Nat := if volts < 0 then 0 else if 65535 < volts then 65535 else volts.toNat
  let reading : Int := if amps < -30000 then -30000 else if 30000 < amps then 30000 else amps
  let i : Int := if valid then reading else s.cac.heldCurrent
  let limit := g.ratedCapacity * 3600000 / 100 * g.depthLimit
  let counted : Int := if 0 ≤ i then s.cac.qUsed + i else s.cac.qUsed - (-i) * 15 / 16
  let clamped : Nat := (max 0 (min (limit : Int) counted)).toNat
  let run := if s.sup.mode = .outage then (if v < g.emptyThreshold then min 10 (s.cac.lowBankRun + 1) else 0) else 0
  let used :=
    if s.sup.mode = .outage then (if run = 10 then limit else clamped)
    else if s.cac.float = .confirmed then 0 else clamped
  let e := s.sup.outageTime
  let usable := limit - used
  let reserve := lifelinesNow s * g.callCurrent * g.reserveTime + g.cabinetCurrent * (g.targetDuration * 3600 - e)
  let spendable := if reserve < usable then usable - reserve else 0
  let horizon := max 900 (g.targetDuration * 3600 - e)
  { volts := v, amps := i, limit := limit, run := run, used := used, usable := usable, reserve := reserve,
    spendable := spendable, horizon := horizon, allowance := min 65535 (spendable / horizon), drawn := drawnNow s }

/-- The candidate stage, its conditions tested in order (R32). -/
def candidateNow (g : AccountParams) (x : Sample) (e : Nat) : Stage :=
  if x.usable = 0 then .exhausted
  else if x.spendable = 0 then .reserve
  else if x.allowance < g.conserveLimit ∨ g.targetDuration * 3600 ≤ e then .conserve
  else .openStage

/-- What recovery found complete: the area, then the ring (R176). -/
def recoveryReads : Instr → Option (Bool × Bool)
  | .recoveryEnd => some (true, true)
  | .recoveryTimeout .area => some (false, true)
  | .recoveryTimeout .ring => some (true, false)
  | .recoveryTimeout .both => some (false, false)
  | _ => none

/-- The recovered checkpoint, none when no slot is valid or the ring was not read (R176). -/
def recoveredNow (s : State) (ringRead : Bool) : Option Checkpoint :=
  if ringRead then (recoveredCheckpoint s.nvs.ring).map (·.2) else none

/-- The slot that recovery takes as the last one written: that of the recovered checkpoint, 31 where there is none (R176). -/
def lastSlotNow (s : State) (ringRead : Bool) : Nat :=
  match if ringRead then recoveredCheckpoint s.nvs.ring else none with
  | some x => x.1.val
  | none => 31

/-- A command that may end or begin START: recovery ends while the part runs in START (R3, R176). -/
abbrev atRecovery (s : State) : Prop := s.cond = .running ∧ s.sup.mode = .start ∧ s.nvs.activity = .recovering

/-- The verdict of a report, and its resistance (R145). -/
def judged (g : AccountParams) (vOpen vLoaded iLoad : Nat) : CellVerdict × Option Nat :=
  if iLoad < 50 then (.invalid, none)
  else
    let r := min 65535 (if vLoaded < vOpen then (vOpen - vLoaded) * 1000 / iLoad else 0)
    if vLoaded < g.cellFailVolt ∨ g.cellFailRes < r then (.failed, some r)
    else if vLoaded < g.cellWeakVolt ∨ g.cellWeakRes < r then (.weak, some r)
    else (.good, some r)

/-- The verdict of six readings, A then B for T1, T2 and T3, true for HIGH (R161). -/
def pairVerdict (a1 b1 a2 b2 a3 b3 : Bool) : LineVerdict :=
  if [a1, b1, a2, b2, a3, b3] = [false, false, true, true, false, true] then .normal
  else if [a1, b1, a2, b2, a3, b3] = [false, false, true, false, false, true] then .openPair
  else if [a1, b1, a2, b2, a3, b3] = [false, false, true, false, true, true] then .crossed
  else if [a1, b1, a2, b2, a3, b3] = [false, false, true, true, true, true] then .pairShort
  else if [a1, b1, a2, b2, a3, b3] = [true, true, true, true, true, true] then .shortHigh
  else if [a1, b1, a2, b2, a3, b3] = [false, false, false, false, false, false] then .shortLow
  else .indeterminate

/-- A checkpoint is pending after a command, or the command began the write of one (R175). -/
abbrev checkpointDue (s t : State) : Prop :=
  t.nvs.pendingCp = true ∨ (t.nvs.activity.isWriting = true ∧ s.nvs.activity.isWriting = false)

/-- What a checkpoint carries whose write begins as the part comes to stand as `t`: the charge, the mode, E and the lockout mask, and
the number after the highest valid one, where there is such a number (R174). -/
abbrev carriesPresent (t : State) (k : Checkpoint) : Prop :=
  k.qUsed = t.cac.qUsed ∧ k.mode = (if t.sup.mode = .outage then .outage else .standby)
    ∧ k.outageTime = t.sup.outageTime ∧ k.lockouts = t.lockoutMask
    ∧ (t.nvs.highSequence < 4294967295 → k.sequence = t.nvs.highSequence + 1)

/-- A checkpoint write has begun in a store that stood as `u`: it goes to the slot after the last one written, which holds nothing
valid from then on, and every other slot is kept, but for those of an unread ring; no checkpoint is pending, unless it was asked for
again, and nothing else of the store is touched (R174 to R176). -/
def writeBegun (u : Nvs) (t : State) (again : Bool) : Prop :=
  ∃ k, carriesPresent t k ∧ t.nvs = { u with
    activity := .writingCheckpoint k
    ring := (if u.ringUnread then Vector.replicate 32 none else u.ring).setIfInBounds ((u.lastSlot + 1) % 32) none
    lastSlot := (u.lastSlot + 1) % 32, pendingCp := again, ringUnread := false }

/-- A checkpoint is asked for in a store that stood as `u`: an idle store begins the write, any other keeps it pending; and it is asked
for once more where one event gives two causes, which the write just begun keeps pending. The rest of the store, its timer among it,
is kept (R173, R175). -/
def checkpointAsked (u : Nvs) (t : State) (again : Bool) : Prop :=
  if u.activity = .idle then writeBegun u t again else t.nvs = { u with pendingCp := true }

/-- What follows the end of a write or a save that leaves the store as `u`: a pending checkpoint, then a waiting save, which takes the
profiles, the parameters and the enables as they stand, then none (R171, R175). -/
def nextBegun (u : Nvs) (t : State) : Prop :=
  if u.pendingCp then writeBegun u t false
  else if u.waitingSave then
    t.nvs = { u with
      activity := .saving { profiles := t.ports.map (·.profile), params := t.cac.params, enables := t.hlk.enables }
      area := none, waitingSave := false }
  else t.nvs = { u with activity := .idle }

/-- The level of a port by the table of R104. -/
def levelNow (q : Port) : Option Level :=
  if q.profile.cls = .lifeline ∧ q.term = .call then some .p1
  else if q.profile.cls = .lifeline then some .p2
  else if q.profile.cls = .standard ∧ q.hold = true then some .p3
  else if q.profile.cls = .standard ∧ q.term = .call then some .p4
  else if q.profile.cls = .standard then some .p5
  else none

/-- The levels an effective stage admits (R107). -/
def admitsNow (e : EffStage) (l : Level) (hold : Bool) : Prop :=
  (e = .standby ∨ e = .openStage ∨ e = .conserve)
    ∨ (e = .reserve ∧ (l = .p1 ∨ (l = .p2 ∧ hold = true)))

/-- The entries eligible for a grant now (R110). -/
abbrev eligibleNow (s : State) (e : QueueEntry) : Prop :=
  s.eff = .standby ∨ s.eff = .openStage
    ∨ (s.eff = .conserve ∧ ((e.level ≠ .p4 ∧ e.level ≠ .p5) ∨ 0 < s.cac.credit))
    ∨ (s.eff = .reserve ∧ (e.level = .p1 ∨ (e.level = .p2 ∧ (s.port e.port).hold = true)))

/-- An entry fits: a slot is free, and the port's feed limit is within what is left of the bank feed ceiling (R106). -/
abbrev fitsNow (s : State) (e : QueueEntry) : Prop :=
  s.fga.grants.length < s.cac.params.slotCeiling
    ∧ (s.port e.port).profile.feedLimit + (s.fga.grants.map (·.limit)).sum ≤ s.cac.params.bankCeiling

/-- The burst length of a port (R108). -/
def burstNow (s : State) (p : PortId) : Nat :=
  if (s.port p).profile.cls = .standard ∧ s.eff = .conserve then max 10 ((s.port p).profile.burstLimit / 2)
  else (s.port p).profile.burstLimit

/-- The effective interval by the table of R86, none for a wake interval of 0. -/
def intervalNow (e : EffStage) (c : ServiceClass) (w : Nat) : Option Nat :=
  if w = 0 then none
  else
    match e with
    | .openStage => some (min 345600 w)
    | .conserve => some (min 345600 (if c = .lifeline then w else 4 * w))
    | .reserve => if c = .lifeline then some (min 345600 (2 * w)) else none
    | _ => none

/-- The effective interval of a port as it stands (R86). -/
def intervalOf (s : State) (p : PortId) : Option Nat :=
  intervalNow s.eff (s.port p).profile.cls (s.port p).profile.wakeInterval

/-- The port's wake list entry stands due at E plus the effective interval, or is absent where that is none (R86). -/
def rescheduled (s t : State) (p : PortId) : Prop := t.wakeOf p = (intervalOf s p).map (later s.sup.outageTime)

/-- A port's wake list entry after a change of the effective stage within OUTAGE: removed, made or kept (R88). -/
def rewoken (s t : State) (p : PortId) : Prop :=
  t.wakeOf p =
    (if (s.port p).profile.enabled = false then s.wakeOf p
    else if (intervalOf t p).isNone then none
    else if (s.wakeOf p).isNone ∧ (s.port p).state ≠ .waking then some (later s.sup.outageTime (4 * p.val))
    else s.wakeOf p)

/-- Severity of the effective stages within OUTAGE: OPEN, CONSERVE, RESERVE, EXHAUSTED (R38, R39). -/
def effRank : EffStage → Nat
  | .standby => 0
  | .openStage => 1
  | .conserve => 2
  | .reserve => 3
  | .exhausted => 4

/-- A test queue entry for a port, present after a test was asked for (R156). -/
abbrev testWaits (s : State) (p : PortId) : Prop := p ∈ s.pdi.queue.map (·.port)

/-- Whether a port's periodic line test is overdue: it is enabled and part time has reached its due time (R158). -/
def overdue (s : State) (p : PortId) : Bool :=
  (s.port p).profile.enabled && decide ((s.port p).periodicDue ≤ s.sup.partTime)

/-- The entries that a periodic request for some of the ports adds to the test queue: one for each that has none, in port order
(R156, R158). -/
def periodicEntries (s : State) (due : PortId → Bool) : List TestEntry :=
  (allPorts.filter fun p => due p && !decide (testWaits s p)).map fun p => ⟨p, .periodic, s.sup.partTime⟩

/-- A command answers a next state, of which something holds. -/
def answers (o : Host.Outcome State Fault Refusal) (holds : State → Prop) : Prop := ∃ t, o = .next t ∧ holds t

/-- One reply was built as the command acted: it stands at the end of the reply queue with the link status of that moment, the
prior-fault flag as it stood before, and the flag is clear (R181, R182). -/
def answered (s t : State) (code : Nat) (r : Result) (data : List Byte) : Prop :=
  t.hlk.priorFault = false
    ∧ t.hlk.replies = s.hlk.replies ++
        [{ code := BitVec.ofNat 8 (code + 0x80),
           status := { t with hlk := { t.hlk with priorFault := s.hlk.priorFault } }.linkStatus, result := r, data := data }]

/-- Every port but one is as it was. -/
def othersKept (s t : State) (p : PortId) : Prop := ∀ q : PortId, q ≠ p → t.port q = s.port q

/-- A switch that has been opened (R127). -/
def opened (w : Switch) : Switch := { w with closed := false, blanking := none, overload := none, clean := none }

/-- A switch that has been closed for a grant (R126). -/
def closedAnew (w : Switch) : Switch := { w with closed := true, blanking := some 200, overload := none, clean := some 60 }

/-- A port that has been granted: FED, its switch closed, FEED_STATE FED asked for (R113, R126). -/
def granted (q : Port) : Port :=
  { q with state := .fed, tx := { q.tx with feedSlot := some true }, switch := closedAnew q.switch }

/-- A port whose grant was released: in the state its cause names, its switch open, FEED_STATE UNFED asked for (R113, R127). -/
def ungranted (st : PortState) (q : Port) : Port :=
  { q with state := st, tx := { q.tx with feedSlot := some false }, switch := opened q.switch }

/-- What an arbitration may do to a port: nothing; grant a QUEUED port, or one whose grant it took in the same arbitration; take the
grant of a FED port and queue it again (R111 to R113). That a victim may be granted anew in the arbitration that took its grant is the
model's inference (notes/assumptions/18.md). -/
def arbitrated (q r : Port) : Prop :=
  r = q
    ∨ ((q.state = .queued ∨ q.state = .fed) ∧ r = granted q)
    ∨ (q.state = .fed ∧ r = ungranted .queued q)

/-- Every port but one is as it was, but for what an arbitration does (R111 to R113). What that may do is in part the model's inference
(notes/assumptions/18.md). -/
def othersArbitrated (s t : State) (p : PortId) : Prop := ∀ q : PortId, q ≠ p → arbitrated (s.port q) (t.port q)

/-- A number that a command took from the order counter: above every number before it, as far as the counter reaches (R103). -/
abbrev newNumber (s : State) (n : Nat) : Prop := s.fga.counter < n ∨ n = 4294967295

/-- A port has joined the feed queue: where the command leaves it QUEUED, its entry has a new arrival and stands at its level, and
where it has been granted at once, its grant has a new number and its present feed limit (R103, R105, R113). -/
def joined (s t : State) (p : PortId) : Prop :=
  ((t.port p).state = .queued →
      ∃ e ∈ t.fga.queue, e.port = p ∧ levelNow (t.port p) = some e.level ∧ newNumber s e.arrival ∧ e.time = s.sup.partTime)
    ∧ ((t.port p).state = .fed →
      ∃ g ∈ t.fga.grants, g.port = p ∧ levelNow (t.port p) = some g.level ∧ g.limit = (t.port p).profile.feedLimit
        ∧ newNumber s g.number ∧ g.time = s.sup.partTime)

/-- A port keeps its place, at its present level: an entry that stays keeps its arrival, a grant that stays its number, its limit and
its time, and an entry that is granted takes a new number (R105, R113, R114). -/
def placeKept (s t : State) (p : PortId) : Prop :=
  ((s.port p).state = .queued → (t.port p).state = .queued →
      ∃ e ∈ s.fga.queue, e.port = p ∧ ∃ l, levelNow (t.port p) = some l ∧ { e with level := l } ∈ t.fga.queue)
    ∧ ((s.port p).state = .fed → (t.port p).state = .fed →
      ∃ g ∈ s.fga.grants, g.port = p ∧ ∃ l, levelNow (t.port p) = some l ∧ { g with level := l } ∈ t.fga.grants)
    ∧ ((s.port p).state = .queued → (t.port p).state = .fed → joined s t p)

/-- A port event raised: its flag, and the port in its mask (R186). -/
def raisedPort (h : Hlk) (k : PortEvent) (p : PortId) : Hlk :=
  { h with
    flags := h.flags ||| BitVec.twoPow 17 (k.priority - 1)
    masks := setMask h.masks k (maskOf h.masks k ||| BitVec.twoPow 16 p.val) }

/-- An arbitration has nothing more to do: the first entry that is eligible does not fit (R111). That this holds of the victims of a
preemption too, which the same scan reaches and may grant anew, is the model's inference (notes/assumptions/18.md). -/
abbrev settled (s : State) : Prop :=
  ∀ e, s.fga.queue.find? (fun e => eligible s.eff s.cac.credit e.level (s.port e.port).hold) = some e → ¬ fitsNow s e

/-- The place of a level, P1 first (R104). -/
def levelPlace : Level → Nat
  | .p1 => 1
  | .p2 => 2
  | .p3 => 3
  | .p4 => 4
  | .p5 => 5

/-- A grant that was released, though the port may have been granted again since (R112, R113, R117). -/
abbrev released (s t : State) (g : Grant) : Prop := g ∈ s.fga.grants ∧ g ∉ t.fga.grants

/-- Of two grants the one that is taken first: the lower level, and within a level the younger (R112, R117). -/
abbrev takenBefore (g h : Grant) : Prop :=
  levelPlace h.level < levelPlace g.level ∨ (g.level = h.level ∧ h.number < g.number)

/-- The grants released between two states were taken in their order, lowest level first and youngest first: none was kept that comes
before one taken; each port taken is QUEUED again or granted anew; and where two of them still wait, the one taken first has the
older arrival, as far as the order counter reaches (R112, R117). -/
def takenInOrder (s t : State) : Prop :=
  ∀ g, released s t g →
    (∀ h ∈ s.fga.grants, h ∈ t.fga.grants → ¬ takenBefore h g)
      ∧ (g.port ∈ t.fga.queue.map (·.port) ∨ g.port ∈ t.fga.grants.map (·.port))
      ∧ ∀ h, released s t h → takenBefore g h →
        ∀ d ∈ t.fga.queue, ∀ e ∈ t.fga.queue, d.port = g.port → e.port = h.port →
          d.arrival < e.arrival ∨ e.arrival = 4294967295

/-- The grant that was taken last of those released (R112, R117). -/
abbrev takenLast (s t : State) (g : Grant) : Prop :=
  released s t g ∧ ∀ h ∈ s.fga.grants, h ∉ t.fga.grants → h = g ∨ takenBefore h g

/-- The grants that were kept. -/
def keptGrants (s t : State) : List Grant := s.fga.grants.filter fun g => decide (g ∈ t.fga.grants)

/-- A value brought to the nearer end of its range (Conventions). -/
def brought (lo hi n : Nat) : Nat := if n < lo then lo else if hi < n then hi else n

/-- The fifteen values SET_ACCOUNT_PARAMS stores: each brought to its range of R20, then the two fail values moved (R21). -/
def paramsKept (g : AccountParams) : AccountParams :=
  let weakVolt := brought 9000 14000 g.cellWeakVolt
  let failVolt := brought 9000 14000 g.cellFailVolt
  let weakRes := brought 50 5000 g.cellWeakRes
  let failRes := brought 50 5000 g.cellFailRes
  { ratedCapacity := brought 1 1000 g.ratedCapacity
    depthLimit := brought 50 100 g.depthLimit
    targetDuration := brought 1 72 g.targetDuration
    callCurrent := brought 100 2000 g.callCurrent
    reserveTime := brought 300 14400 g.reserveTime
    cabinetCurrent := brought 0 2000 g.cabinetCurrent
    conserveLimit := brought 0 10000 g.conserveLimit
    slotCeiling := brought 1 8 g.slotCeiling
    bankCeiling := brought 500 8000 g.bankCeiling
    emptyThreshold := brought 40000 48000 g.emptyThreshold
    cellWeakVolt := weakVolt
    cellFailVolt := if weakVolt < failVolt then weakVolt else failVolt
    cellWeakRes := weakRes
    cellFailRes := if failRes < weakRes then weakRes else failRes
    lineInterval := brought 1 168 g.lineInterval }

/-- The class of a SET_PROFILE code: 1 for LIFELINE, 2 for STANDARD and 3 for DEFERRED (R51). -/
def classNow (code : Nat) : ServiceClass := if code = 1 then .lifeline else if code = 2 then .standard else .deferred

/-- Whether the three codes of a SET_PROFILE are codes at all (R51, case 4). -/
abbrev codesGood (g : ProfileRequest) : Prop := g.enabled ≤ 1 ∧ g.feedOnWake ≤ 1 ∧ 1 ≤ g.cls ∧ g.cls ≤ 3

/-- The profile a SET_PROFILE stores by the clamps of R51. -/
def profileKept (g : ProfileRequest) : Profile where
  enabled      := g.enabled == 1
  cls          := classNow g.cls
  wakeInterval := if g.wakeInterval = 0 then 0 else brought 60 86400 g.wakeInterval
  burstLimit   := brought 10 1800 g.burstLimit
  feedOnWake   := g.feedOnWake == 1
  feedLimit    := brought 100 1500 g.feedLimit
  cellInterval := brought 1 90 g.cellInterval

/-- Whether a clamp of R51 changes a value of a SET_PROFILE. -/
def profileMoved (g : ProfileRequest) : Bool :=
  (profileKept g).wakeInterval != g.wakeInterval || (profileKept g).burstLimit != g.burstLimit
    || (profileKept g).feedLimit != g.feedLimit || (profileKept g).cellInterval != g.cellInterval

/-- Severity among the outage stages: OPEN, CONSERVE, RESERVE, EXHAUSTED (R32, R33). -/
def rank : Stage → Nat
  | .noStage => 0
  | .openStage => 1
  | .conserve => 2
  | .reserve => 3
  | .exhausted => 4

/-- The stage and the promotion count after a candidate (R33). -/
def stageNow (stage : Stage) (count : Nat) (cand : Stage) : Stage × Nat :=
  if stage = .noStage ∨ rank stage < rank cand then (cand, 0)
  else if cand = stage then (stage, 0)
  else if count + 1 < 60 then (stage, count + 1)
  else (cand, 0)

/-- Whether a checkpoint is recovered that records mode OUTAGE (R4, R5). -/
def resumes (cp : Option Checkpoint) : Bool :=
  match cp with
  | some c => c.mode == .outage
  | none => false

end Sys2Proof.Claims

open Sys2Proof Sys2Proof.Machine Sys2Proof.Claims

/-! ### The block, its reset and its invariants -/

/-- The queue of commands is first in, first out, and each step runs one command; with none waiting the block idles. That it idles
is the model's choice (notes/assumptions/2.md). -/
def Obligations.StepRunsFrontCommand : Prop :=
  (∀ (c : Instr) (s : State), step { s with pending := c :: s.pending } = exec c s)
    ∧ ∀ s : State, s.pending = [] → step s = .next s

/-- After a power-on reset every block stands at the values of its table (R2, R16, R43, R84, R103, R125, R140, R155, R168, R178,
R186, R190), and every invariant holds. -/
def Obligations.ResetMeetsInvariants : Prop :=
  fresh State.reset State.reset ∧ State.reset.EventsAgree ∧ State.reset.RepliesBounded ∧ State.reset.PresenceSound
    ∧ State.reset.AccountSound ∧ State.reset.StoreSound ∧ State.reset.PortsSound

/-- R186: a port kind's flag is pending exactly when its mask holds a port. R181, R190, R192: the reply queue holds at most 4 replies;
outside OUTAGE supervision reads SUPERVISED and no window runs; in OUTAGE a window runs exactly while it is SUPERVISED; the expected
token is 1 or 2. Every step keeps both. -/
def Obligations.HostLinkKept : Prop :=
  (∀ s t : State, s.EventsAgree → step s = .next t → t.EventsAgree)
    ∧ (∀ s t : State, s.RepliesBounded → s.PresenceSound → step s = .next t → t.RepliesBounded ∧ t.PresenceSound)

/-- R16, R20, R21, R25, R30, R42, R51: every parameter and every profile, running, stored or being saved, in its range, and the
figures of the account in theirs. Every step keeps this. -/
def Obligations.AccountKept : Prop :=
  ∀ s t : State, s.AccountSound → step s = .next t → t.AccountSound

/-- R168, R170, R173 to R176: the shape of the store's activity, its waiting operations, its timer and the places being written.
Every step keeps it, in a part whose ports keep their promises: in START no port trips and no test ends. -/
def Obligations.StoreKept : Prop :=
  ∀ s t : State, s.PortsSound → s.StoreSound → step s = .next t → t.StoreSound

/-- The promises of the port table, the arbiter, the switches, the wake list, the instrument and the mode, together: a port is
FED if and only if it has a grant and a closed switch, QUEUED if and only if it has an entry, the ceilings and the effective stage
are obeyed (R44, R47, R64, R81, R84, R104 to R107, R110, R115, R126, R140, R155, R159). Every step keeps them. -/
def Obligations.PortsKept : Prop :=
  ∀ s t : State, s.PortsSound → step s = .next t → t.PortsSound

/-- R170: the LOCK strap protects the profile area. While it was sampled high and no save is under way or waiting, no step writes
the area, begins a save or leaves one waiting. -/
def Obligations.LockStrapProtectsArea : Prop :=
  ∀ s t : State, s.straps.lockHigh = true → s.nvs.activity.isSaving = false → s.nvs.waitingSave = false → step s = .next t →
    t.nvs.area = s.nvs.area ∧ t.nvs.activity.isSaving = false ∧ t.nvs.waitingSave = false

/-! ### Supply, clocks and mains -/

/-- R1: VBANK below the stop threshold stops the part, running or held, and RSTN taken low holds a running part: the switches open, nothing
is sent and no receiver listens, ATTN is released, the clocks do not count, and the store's contents are kept. R2, R185: a
power-on reset begins when the part leaves the stopped condition with RSTN high or leaves the held condition, and samples the straps; a
restart reset begins when the reply to RESTART has been sent, and keeps them. Both leave every block at the values of its table. RSTN
low holds a starting part, and an edge of RSTN does nothing more to a stopped one. That VBANK_STOP leaves the bank-low comparator low and
VBANK_START leaves it not low is the model's inference (notes/assumptions/24.md), and that the straps stand as last sampled while the
part is stopped or held is its choice (notes/assumptions/6.md). -/
def Obligations.SupplyAndResets : Prop :=
  ((∀ s : State, s.cond ≠ .stopped →
     answers (exec .vbankStop s) fun t =>
       t.cond = .stopped ∧ dark s t ∧ t.pins = { s.pins with bankLow := true } ∧ t.straps = s.straps)
     ∧ ∀ s : State, s.cond = .running →
       answers (exec .rstnLow s) fun t =>
         t.cond = .held ∧ dark s t ∧ t.pins = { s.pins with rstn := false } ∧ t.straps = s.straps)
    ∧ (∀ s : State, s.cond ≠ .running → exec .rstnLow s = .next { s with pins := { s.pins with rstn := false } })
    ∧ ((∀ (s : State) (lock speed : Bool), s.cond = .stopped → s.pins.rstn = true →
      answers (exec (.vbankStart lock speed) s) fun t => fresh s t ∧ t.straps = ⟨lock, speed⟩)
      ∧ (∀ (s : State) (lock speed : Bool), s.cond = .stopped → s.pins.rstn = false →
        exec (.vbankStart lock speed) s =
          .next { s with cond := .held, pins := { s.pins with lock := lock, speed := speed, bankLow := false } })
      ∧ (∀ (s : State) (lock speed : Bool), s.cond = .held →
        answers (exec (.rstnHigh lock speed) s) fun t => fresh s t ∧ t.straps = ⟨lock, speed⟩)
      ∧ (∀ (s : State) (lock speed : Bool), s.cond = .stopped →
        exec (.rstnHigh lock speed) s = .next { s with pins := { s.pins with rstn := true, lock := lock, speed := speed } })
      ∧ ∀ (s : State) (r : Reply) (rest : List Reply), s.cond = .running → s.hlk.replies = r :: rest → r.code = 0xE1#8 →
        r.result = .ok → answers (exec .replySent s) fun t => fresh s t ∧ t.straps = s.straps)

/-- R10, R11: a second of running raises part time by 1 in every mode, saturating, and a second of an outage raises E; outside
running, and outside OUTAGE for E, neither counts. Every running timer loses the second at the part-time tick: those of the supervisor,
the float confirmation, the presence window with its early bound, the timers of every port, and outside OUTAGE the checkpoint timer;
in OUTAGE the checkpoint timer loses it at the tick of the outage, whose E is its time base. That a timer loses its second at the tick
and stands at 0 until its expiry, the early bound at 1, so that no tick makes the bound pass, is the model's choice
(notes/assumptions/2.md). -/
def Obligations.ClocksCount : Prop :=
  (∀ s : State, s.cond = .running →
    answers (exec .partTimeTick s) fun t =>
      t.sup = { s.sup with
          partTime := later s.sup.partTime 1
          lossConf := s.sup.lossConf.map (· - 1000), returnConf := s.sup.returnConf.map (· - 1)
          bankWatch := s.sup.bankWatch.map (· - 1) }
        ∧ t.cac = { s.cac with float :=
            match s.cac.float with
            | .running n => .running (n - 1)
            | other => other }
        ∧ t.nvs = { s.nvs with cpTimer :=
            if s.sup.mode = .outage then s.nvs.cpTimer else s.nvs.cpTimer.map (· - 1) }
        ∧ t.hlk = { s.hlk with window :=
            match s.hlk.window with
            | .long n => .long (n - 1)
            | .normal n early => .normal (n - 1) (if early = 0 then 0 else max 1 (early - 1))
            | .noWindow => .noWindow }
        ∧ (∀ p : PortId, t.port p = { s.port p with
            burst := (s.port p).burst.map (· - 1), silence := (s.port p).silence.map (· - 1)
            checkin := (s.port p).checkin.map (· - 1)
            switch := { (s.port p).switch with
              blanking := (s.port p).switch.blanking.map (· - 1000), overload := (s.port p).switch.overload.map (· - 1000)
              clean := (s.port p).switch.clean.map (· - 1), backoff := (s.port p).switch.backoff.map (· - 1) }
            cell := { (s.port p).cell with report := (s.port p).cell.report.map (· - 1) } })
        ∧ t = { s with sup := t.sup, nvs := t.nvs, ports := t.ports, cac := t.cac, hlk := t.hlk })
    ∧ (∀ s : State, s.cond ≠ .running → exec .partTimeTick s = .next s ∧ exec .outageTimeTick s = .next s)
    ∧ (∀ s : State, s.cond = .running → s.sup.mode = .outage →
      exec .outageTimeTick s =
        .next { s with
          sup := { s.sup with outageTime := later s.sup.outageTime 1 }
          nvs := { s.nvs with cpTimer := s.nvs.cpTimer.map (· - 1) } })
    ∧ ∀ s : State, s.cond = .running → s.sup.mode ≠ .outage → exec .outageTimeTick s = .next s

/-- R10, R11, R2: no command but the tick changes part time, but for a reset, which sets it to 0; none but the tick of the outage
changes E while the mode stays as it is; and no command touches the queue of waiting commands. -/
def Obligations.OnlyTicksMoveClocks : Prop :=
  ∀ (c : Instr) (s t : State), s.ModeSound → exec c s = .next t →
    t.pending = s.pending
      ∧ (c ≠ .partTimeTick → t.sup.partTime = s.sup.partTime ∨ (t.sup.partTime = 0 ∧ t.sup.mode = .start))
      ∧ (c ≠ .outageTimeTick → t.sup.mode = s.sup.mode → t.sup.outageTime = s.sup.outageTime)

/-- R6, R8, R12, R27: the edges of MAINS, of the bank-low comparator and of FLOAT, by mode. In STANDBY a fall of MAINS starts the loss
confirmation with the full 2,000 ms and a rise stops it; in OUTAGE a rise starts the return confirmation with the full 30 s and a fall
stops it; in START edges are not watched. In OUTAGE a fall of the bank below 40,000 mV starts the watch with 10 s unless the forced
mark is set, and a return stops it and clears the mark. In STANDBY a rise of FLOAT starts the float confirmation with 60 s, a fall
returns it to idle, and one that runs out is confirmed. Where an edge is not watched, in START, in another mode and in a part that does
not run, only the level moves. That an edge in a part that does not run moves the level is the model's inference
(notes/assumptions/3.md). -/
def Obligations.SupplyEdges : Prop :=
  (∀ s : State, s.cond = .running →
     (s.sup.mode = .start →
       exec .mainsFall s = .next { s with pins := { s.pins with mains := false } }
         ∧ exec .mainsRise s = .next { s with pins := { s.pins with mains := true } })
     ∧ (s.sup.mode = .standby →
       exec .mainsFall s =
           .next { s with pins := { s.pins with mains := false }, sup := { s.sup with lossConf := some 2000 } }
         ∧ exec .mainsRise s = .next { s with pins := { s.pins with mains := true }, sup := { s.sup with lossConf := none } })
     ∧ (s.sup.mode = .outage →
       exec .mainsFall s =
           .next { s with pins := { s.pins with mains := false }, sup := { s.sup with returnConf := none } }
         ∧ exec .mainsRise s =
           .next { s with pins := { s.pins with mains := true }, sup := { s.sup with returnConf := some 30 } }))
    ∧ (∀ s : State, s.cond = .running →
      (s.sup.mode = .outage →
        exec .bankLowFall s =
            .next { s with
              pins := { s.pins with bankLow := true }
              sup := { s.sup with bankWatch := if s.sup.forced then s.sup.bankWatch else some 10 } }
          ∧ exec .bankLowReturn s =
            .next { s with
              pins := { s.pins with bankLow := false }, sup := { s.sup with bankWatch := none, forced := false } })
      ∧ (s.sup.mode ≠ .outage →
        exec .bankLowFall s = .next { s with pins := { s.pins with bankLow := true } }
          ∧ exec .bankLowReturn s = .next { s with pins := { s.pins with bankLow := false } }))
    ∧ (∀ s : State, s.cond = .running →
      (s.sup.mode = .standby →
        exec .floatRise s = .next { s with pins := { s.pins with float := true }, cac := { s.cac with float := .running 60 } }
          ∧ exec .floatFall s = .next { s with pins := { s.pins with float := false }, cac := { s.cac with float := .idle } })
      ∧ (s.sup.mode ≠ .standby →
        exec .floatRise s = .next { s with pins := { s.pins with float := true } }
          ∧ exec .floatFall s = .next { s with pins := { s.pins with float := false } })
      ∧ ∀ n : Nat, s.cac.float = .running n →
        exec .floatConfirmationExpiry s = .next { s with cac := { s.cac with float := .confirmed } })
    ∧ ∀ s : State, s.cond ≠ .running →
      exec .mainsFall s = .next { s with pins := { s.pins with mains := false } }
        ∧ exec .mainsRise s = .next { s with pins := { s.pins with mains := true } }
        ∧ exec .bankLowFall s = .next { s with pins := { s.pins with bankLow := true } }
        ∧ exec .bankLowReturn s = .next { s with pins := { s.pins with bankLow := false } }
        ∧ exec .floatRise s = .next { s with pins := { s.pins with float := true } }
        ∧ exec .floatFall s = .next { s with pins := { s.pins with float := false } }

/-- R7, R36, R118, R137, R150, R173, R190: when the loss confirmation runs out the outage begins: E is 0, the confirmations are idle, the
forced mark is clear, the watch starts if the bank is low, OUTAGE_BEGIN is raised, a checkpoint is asked for, and CAC, HLK and the
store's timer take up the outage. At each port a cell test is aborted with a cancel order and its port is IDLE; a standby feed without
a host hold ends, released with UNFED or withdrawn; a held port stays QUEUED or FED; every other port keeps its state. No other sending
is asked for, and the rest of the record is kept. That an arbitration goes on to the victims of its own preemption, and may grant
them anew, is the model's inference (notes/assumptions/18.md). -/
def Obligations.OutageBegins : Prop :=
  (∀ s : State, s.PortsSound → s.cond = .running → s.sup.mode = .standby → s.sup.lossConf.isSome →
     answers (exec .lossConfirmationExpiry s) fun t =>
       t.sup = { s.sup with
           mode := .outage, outageTime := 0, lossConf := none, returnConf := none, forced := false
           bankWatch := if s.pins.bankLow then some 10 else none }
         ∧ t.cac = { s.cac with credit := 0, promotion := 0, candidate := none, lowBankRun := 0, float := .idle }
         ∧ t.cac.stage = .noStage ∧ t.eff = .conserve
         ∧ t.hlk = { raised s.hlk 5 with supervision := .supervised, token := 1, window := .long 300 }
         ∧ checkpointAsked { s.nvs with cpTimer := some 300 } t false ∧ settled t
         ∧ t = { s with
             sup := t.sup, cac := t.cac, ports := t.ports, wakes := t.wakes, fga := t.fga, nvs := t.nvs, hlk := t.hlk })
    ∧ (∀ s : State, s.PortsSound → s.cond = .running → s.sup.mode = .standby → s.sup.lossConf.isSome →
      answers (exec .lossConfirmationExpiry s) fun t =>
        ∀ p : PortId,
          let q := { s.port p with standbyFeed := false }
          let fed := q.state = .queued ∨ q.state = .fed
          (q.state = .cellTest →
            t.port p = { q with
              state := .idle, tx := { q.tx with orderSlot := some 0 }
              cell := { q.cell with phase := .noTest, duration := none, report := none } })
          ∧ (fed → q.hold = false →
            unfed t p ∧ t.port p = (if q.state = .fed then ungranted (restState q) q else { q with state := restState q }))
          ∧ (fed → q.hold = true → arbitrated q (t.port p) ∧ ((t.port p).state = .queued ∨ (t.port p).state = .fed))
          ∧ (q.state ≠ .cellTest → ¬ fed → t.port p = q))

/-- R5, R7, R12, R36, R87, R118, R150, R173, R190: whatever command begins an outage, from mains loss or at the end of START, each
block has responded: the wake list holds one staggered entry for each enabled port with a wake interval and no other, no standby
feed and no cell test is left, the account, the supervision and the store's timer stand as an outage begins, and a checkpoint has
been asked for, whose write has begun where START ends. -/
def Obligations.OutageBeginReachesBlocks : Prop :=
  ∀ (c : Instr) (s t : State), s.PortsSound → s.StoreSound → s.sup.mode ≠ .outage → exec c s = .next t → t.sup.mode = .outage →
    t.sup.lossConf = none ∧ t.sup.returnConf = none ∧ t.sup.forced = false
      ∧ t.sup.bankWatch = (if s.pins.bankLow then some 10 else none)
      ∧ t.cac.stage = .noStage ∧ t.cac.credit = 0 ∧ t.cac.promotion = 0 ∧ t.cac.candidate = none ∧ t.cac.lowBankRun = 0
      ∧ t.cac.float = .idle ∧ t.eff = .conserve
      ∧ t.hlk.supervision = .supervised ∧ t.hlk.token = 1 ∧ t.hlk.window = .long 300
      ∧ t.nvs.cpTimer = some 300
      ∧ (s.sup.mode = .standby → checkpointAsked { s.nvs with cpTimer := some 300 } t false)
      ∧ (s.sup.mode = .start → t.nvs.activity.isWriting = true ∧ t.nvs.pendingCp = false)
      ∧ ∀ p : PortId,
        t.wakeOf p =
            (if (t.port p).profile.enabled = true ∧ (t.port p).profile.wakeInterval ≠ 0 then
              some (later t.sup.outageTime (30 + 4 * p.val))
            else none)
          ∧ (t.port p).standbyFeed = false ∧ (t.port p).state ≠ .cellTest

/-- R9, R37, R46, R89, R118, R137, R152, R158, R173, R190: when the return confirmation runs out the outage ends: its duration is kept,
OUTAGE_END is raised, and STAGE_CHANGE unless the stage was NONE, a checkpoint is asked for, and by the stage change another, which
follows one begun (R34, R175); the wake list, the feed queue and the
grant set are empty, and every port is left as the outage end of each block leaves it. Every enabled port whose periodic line test is
overdue is asked for at once, in port order, and its due time moves one interval on. -/
def Obligations.OutageEnds : Prop :=
  ∀ s : State, s.PortsSound → s.cond = .running → s.sup.mode = .outage → s.sup.returnConf.isSome →
    answers (exec .returnConfirmationExpiry s) fun t =>
      t.sup = { s.sup with
          mode := .standby, outageTime := 0, returnConf := none, lossConf := none, bankWatch := none, forced := false
          lastOutage := s.sup.outageTime }
        ∧ t.cac = { s.cac with
            stage := .noStage, credit := 0, promotion := 0, candidate := none, lowBankRun := 0
            float := if s.pins.float then .running 60 else .idle }
        ∧ t.hlk = { (if s.cac.stage = .noStage then raised s.hlk 6 else raised (raised s.hlk 6) 4) with
            supervision := .supervised, token := 1, window := .noWindow }
        ∧ t.wakes = [] ∧ t.fga = { queue := [], grants := [], counter := s.fga.counter }
        ∧ checkpointAsked { s.nvs with cpTimer := some 3600 } t (s.cac.stage != .noStage)
        ∧ (∀ p : PortId, t.port p = { s.port p with
            state :=
              match (s.port p).state with
              | .waking => .idle
              | .retry => .idle
              | .queued => restState (s.port p)
              | .fed => restState (s.port p)
              | other => other
            hold := false, burst := none, cellLow := false, checkin := none
            tx := { (s.port p).tx with
              feedSlot := if (s.port p).state = .fed then some false else (s.port p).tx.feedSlot }
            switch := { opened (s.port p).switch with backoff := none }
            cell := { (s.port p).cell with due := max (s.port p).cell.due (later s.sup.partTime 21600) }
            periodicDue :=
              if overdue s p then later s.sup.partTime (s.cac.params.lineInterval * 3600) else (s.port p).periodicDue })
        ∧ t.pdi = { s.pdi with queue := s.pdi.queue ++ periodicEntries s (overdue s) }
        ∧ t = { s with
            sup := t.sup, cac := t.cac, ports := t.ports, wakes := t.wakes, fga := t.fga, pdi := t.pdi, nvs := t.nvs
            hlk := t.hlk }

/-! ### Recovery -/

/-- R4, R5, R176: recovery ends START. With MAINS high the mode is STANDBY, and an outage that the recovered checkpoint records is
closed with its duration, OUTAGE_END and a checkpoint; with MAINS low the mode is OUTAGE, resumed at the recorded E without
OUTAGE_BEGIN, or begun at 0 with it, and a checkpoint is asked for. Nothing else raises these two, and no other checkpoint is asked
for. -/
def Obligations.RecoveryDecidesMode : Prop :=
  ∀ (c : Instr) (area ring : Bool) (s : State), recoveryReads c = some (area, ring) → atRecovery s → s.PortsSound →
    s.StoreSound →
    answers (exec c s) fun t =>
      let cp := recoveredNow s ring
      let recorded := (cp.map (·.outageTime)).getD 0
      t.sup.mode = (if s.pins.mains then .standby else .outage)
        ∧ t.sup.outageTime = (if !s.pins.mains && resumes cp then recorded else 0)
        ∧ t.sup.lastOutage = (if s.pins.mains && resumes cp then recorded else s.sup.lastOutage)
        ∧ t.sup.partTime = s.sup.partTime ∧ t.sup.lossConf = none ∧ t.sup.returnConf = none ∧ t.sup.forced = false
        ∧ t.sup.bankWatch = (if !s.pins.mains && s.pins.bankLow then some 10 else none)
        ∧ t.cac.stage = .noStage
        ∧ kindSet t.hlk.flags 5 = (kindSet s.hlk.flags 5 || (!s.pins.mains && !resumes cp))
        ∧ kindSet t.hlk.flags 6 = (kindSet s.hlk.flags 6 || (s.pins.mains && resumes cp))
        ∧ t.nvs.cpTimer = some (if s.pins.mains then 3600 else 300)
        ∧ t.nvs.activity.isWriting = (!s.pins.mains || resumes cp)

/-- R4, R5, R12, R16, R17, R24, R27, R36, R42, R44, R87, R152, R155, R158, R169, R173 to R176, R190: what recovery hands over, and the
whole part as recovery leaves it. The settings come from the profile area, or are the factory defaults with STORE_FAULT where it is bad
or unread; Q_used comes from the checkpoint, brought within Q_limit, or is half of it with the uncertainty mark and ACCOUNT_UNCERTAIN
where there is none; each port is OFF, LOCKED with reason RECOVERED, or IDLE; STORE_FAULT is raised for an unread part. The last slot
written and the highest number are those of the recovered checkpoint, or 31 and 0, before the checkpoint that is asked for begins in the
slot after it; without one the store is idle. Where STANDBY follows with FLOAT high the float confirmation starts, and where STANDBY
follows, every enabled port whose first periodic line test is already due is asked for, in port order. R152: where a recorded outage is
closed, the next cell test of every port falls due no sooner than 21,600 s on. Where an outage begins, the wake list holds one staggered
entry for each enabled port with a wake interval, and supervision is SUPERVISED with token 1 and a long window; where a recorded outage
is closed, it is SUPERVISED with token 1 and no window; wherever STANDBY follows, the wake list is empty. Beside STORE_FAULT and
ACCOUNT_UNCERTAIN, OUTAGE_BEGIN of an outage not resumed and OUTAGE_END of one closed are the only events raised. The rest of each port's
record, of each block and of the part is kept. -/
def Obligations.RecoverySettlesPart : Prop :=
  ∀ (c : Instr) (area ring : Bool) (s : State), recoveryReads c = some (area, ring) → atRecovery s → s.PortsSound →
    s.StoreSound →
    answers (exec c s) fun t =>
      let found := if area then s.nvs.area else none
      let loaded := found.getD
        { profiles := Vector.replicate 16 defaultProfile, params := defaultParams, enables := BitVec.allOnes 17 }
      let cp := recoveredNow s ring
      let recorded := (cp.map (·.outageTime)).getD 0
      let begins : Bool := !s.pins.mains
      let closes : Bool := s.pins.mains && resumes cp
      let e0 := if begins && resumes cp then recorded else 0
      let limit := loaded.params.ratedCapacity * 36000 * loaded.params.depthLimit
      let interval := loaded.params.lineInterval * 3600
      let due (p : PortId) : Bool := s.pins.mains && loaded.profiles[p.val].enabled && decide (interval ≤ s.sup.partTime)
      let woken (p : PortId) : Bool := loaded.profiles[p.val].enabled && loaded.profiles[p.val].wakeInterval != 0
      let mark (b : Bool) (priority : Nat) (h : Hlk) : Hlk := if b then raised h priority else h
      let store : Nvs := { s.nvs with
        activity := .idle, areaAtStart := if found.isSome then .good else .bad
        lastSlot := lastSlotNow s ring, highSequence := (cp.map (·.sequence)).getD 0, ringUnread := !ring
        cpTimer := some (if s.pins.mains then 3600 else 300) }
      t.sup = { s.sup with
          mode := if begins then .outage else .standby
          outageTime := e0, lossConf := none, returnConf := none, forced := false
          bankWatch := if begins && s.pins.bankLow then some 10 else none
          lastOutage := if closes then recorded else s.sup.lastOutage }
        ∧ t.cac = { s.cac with
            params := loaded.params, qLimit := limit
            qUsed :=
              match cp with
              | some k => if k.qUsed < limit then k.qUsed else limit
              | none => limit / 2
            uncertain := s.cac.uncertain || cp.isNone
            float := if s.pins.mains && s.pins.float then .running 60 else .idle }
        ∧ t.hlk =
            mark (begins && !resumes cp) 5 (mark closes 6 (mark cp.isNone 14 (mark (found.isNone || !ring) 15
              { s.hlk with
                enables := loaded.enables
                supervision := if begins || closes then .supervised else s.hlk.supervision
                token := if begins || closes then 1 else s.hlk.token
                window := if begins then .long 300 else if closes then .noWindow else s.hlk.window })))
        ∧ (if begins || closes then writeBegun store t false else t.nvs = store)
        ∧ t.wakes =
            (if begins then (allPorts.filter woken).map fun p => { port := p, due := later e0 (30 + 4 * p.val) } else [])
        ∧ t.pdi = { s.pdi with queue := s.pdi.queue ++ periodicEntries s due }
        ∧ t = { s with
            sup := t.sup, cac := t.cac, ports := t.ports, wakes := t.wakes, pdi := t.pdi, nvs := t.nvs, hlk := t.hlk }
        ∧ ∀ p : PortId,
          let masked := ((cp.map fun k => k.lockouts).getD (0 : PortMask)).getLsbD p.val
          let enabled := loaded.profiles[p.val].enabled
          t.port p = { s.port p with
            profile := loaded.profiles[p.val]
            periodicDue := if due p then later s.sup.partTime interval else interval
            state := if enabled = false then .off else if masked then .locked else .idle
            lockReason := if enabled && masked then some .recovered else none
            rx := if enabled then .hunt else .gated
            cell := { (s.port p).cell with
              due := if closes then max (s.port p).cell.due (later s.sup.partTime 21600) else (s.port p).cell.due } }

/-- R176: the recovered checkpoint is a valid slot with the highest sequence number; of several, one whose next slot in ring order
does not carry that number, and of these, or of all if there are none, the lowest slot. None is recovered exactly when no slot is
valid. -/
def Obligations.NewestCheckpointRecovered : Prop :=
  ∀ ring : Vector (Option Checkpoint) 32,
    (recoveredCheckpoint ring = none ↔ ∀ j : Fin 32, ring[j.val] = none)
      ∧ ∀ (i : Fin 32) (k : Checkpoint), recoveredCheckpoint ring = some (i, k) →
        ring[i.val] = some k
          ∧ (∀ (j : Fin 32) (d : Checkpoint), ring[j.val] = some d → d.sequence ≤ k.sequence)
          ∧ (let carries (j : Fin 32) : Prop := (ring[j.val]).map (·.sequence) = some k.sequence
             let last (j : Fin 32) : Prop := carries j ∧ ¬ carries ⟨(j.val + 1) % 32, Nat.mod_lt _ (by decide)⟩
             (last i ∨ ∀ j, ¬ last j) ∧ ∀ j, j < i → (¬ last j) ∧ (¬ last i → ¬ carries j))

/-! ### The bank-low watch and FLOAT -/

/-- R13, R35, R88, R115: when the watch runs out the stage is EXHAUSTED and the promotion count 0, the forced mark is set, a
checkpoint is asked for even when the stage stood there already, and STAGE_CHANGE is raised only when it did not, with a checkpoint of
its own that follows one begun by the forcing (R34, R175). Nothing is left fed, queued or to be woken, each port that was fed or queued
goes to AWAKE or IDLE, and a fed one has its switch open and FEED_STATE UNFED asked for. -/
def Obligations.BankLowForcing : Prop :=
  ∀ s : State, s.PortsSound → s.cond = .running → s.sup.mode = .outage → s.sup.bankWatch.isSome →
    answers (exec .bankLowWatchExpiry s) fun t =>
      t.sup = { s.sup with forced := true, bankWatch := none }
        ∧ t.cac = { s.cac with stage := .exhausted, promotion := 0 } ∧ t.eff = .exhausted
        ∧ t.hlk = (if s.cac.stage = .exhausted then s.hlk else raised s.hlk 4)
        ∧ checkpointAsked s.nvs t (s.cac.stage != .exhausted) ∧ t.fga.queue = [] ∧ t.fga.grants = [] ∧ t.wakes = []
        ∧ (∀ p : PortId,
            let q := s.port p
            t.port p =
              if q.state = .fed then ungranted (restState q) q
              else if q.state = .queued then { q with state := restState q }
              else q)
        ∧ t = { s with
            sup := t.sup, cac := t.cac, ports := t.ports, wakes := t.wakes, fga := t.fga, nvs := t.nvs, hlk := t.hlk }

/-! ### The charge account and the tables -/

/-- R18, R19, R24 to R29, R23: the figures one account sample forms, in STANDBY and in OUTAGE, and what they leave of the account:
Q_limit, Q_used with the corrections, the held current, the invalid run, the uncertainty mark, the low-bank run and the float
confirmation. ACCOUNT_UNCERTAIN is raised as the invalid run reaches 10. -/
def Obligations.SampleFormsFigures : Prop :=
  ∀ (s : State) (volts amps : Int) (valid : Bool), s.AccountSound → s.PortsSound → s.cond = .running → s.sup.mode ≠ .start →
    answers (exec (.accountSample volts amps valid) s) fun t =>
      let x := sampleOf s volts amps valid
      let full := s.sup.mode = .standby ∧ s.cac.float = .confirmed
      let tenth := valid = false ∧ s.cac.invalidRun = 9
      t.cac.params = s.cac.params ∧ t.cac.qLimit = x.limit ∧ t.cac.qUsed = x.used ∧ t.cac.lowBankRun = x.run
        ∧ t.cac.heldCurrent = x.amps
        ∧ t.cac.invalidRun = (if valid then 0 else min 10 (s.cac.invalidRun + 1))
        ∧ (t.cac.uncertain = true ↔ (s.cac.uncertain = true ∨ tenth) ∧ ¬ full)
        ∧ kindSet t.hlk.flags 14 = (kindSet s.hlk.flags 14 || decide tenth)
        ∧ t.cac.float = (if full then .idle else s.cac.float)
        ∧ t.cac.figures = some
            { volts := x.volts, amps := x.amps, wasHeld := !valid, usable := x.usable, reserve := x.reserve,
              spendable := x.spendable, horizon := x.horizon, allowance := x.allowance, cap := x.allowance * 600,
              drawn := x.drawn, lifelines := lifelinesNow s }
        ∧ t.sup = s.sup ∧ t.pdi = s.pdi ∧ t.hlk.masks = s.hlk.masks ∧ t.hlk.replies = s.hlk.replies
        ∧ (s.sup.mode = .standby → t = { s with cac := t.cac, hlk := t.hlk })

/-- R30, R32, R33, R34: the credit is the credit before plus the allowance less the STANDARD draw, between -cap and +cap; the
candidate is the first row of its table that applies; the stage follows the stage rule, and a change raises STAGE_CHANGE and asks for
a checkpoint. In STANDBY the credit is held at 0 and the stage and the candidate stay as they are. R88, R115, R116: what an OUTAGE
sample hands on. A change of the effective stage removes, makes or keeps the wake entry of each enabled port; a port that is queued or
fed and that the new effective stage does not admit goes to AWAKE or IDLE, any other stays queued or fed; in CONSERVE with the credit
spent the P4 and P5 ports that were fed are queued again with new arrivals and none is fed. R111: an easing and a credit that has become
greater than 0 run an arbitration, and so does a credit spent in CONSERVE. Without such a change and without a crossing
of the credit, no port, no wake entry and nothing of the arbiter changes. Where a change and a crossing come together a free value takes
their order (notes/assumptions/9.md). That an arbitration goes on to the victims of its own preemption, and may grant them anew, is
the model's inference (notes/assumptions/18.md). -/
def Obligations.SampleGovernsStage : Prop :=
  ∀ (s : State) (volts amps : Int) (valid : Bool), s.AccountSound → s.PortsSound → s.cond = .running →
    (s.sup.mode = .standby →
      answers (exec (.accountSample volts amps valid) s) fun t =>
        t.cac.credit = 0 ∧ t.cac.stage = .noStage ∧ t.cac.candidate = none ∧ t.cac.promotion = 0
          ∧ t = { s with cac := t.cac, hlk := { s.hlk with flags := t.hlk.flags } })
    ∧ (s.sup.mode = .outage →
      answers (exec (.accountSample volts amps valid) s) fun t =>
        let x := sampleOf s volts amps valid
        let cap : Int := x.allowance * 600
        let sum : Int := s.cac.credit + x.allowance - x.drawn
        let cand := candidateNow s.cac.params x s.sup.outageTime
        t.cac.credit = (if sum < -cap then -cap else if cap < sum then cap else sum)
          ∧ t.cac.candidate = some cand
          ∧ (t.cac.stage, t.cac.promotion) = stageNow s.cac.stage s.cac.promotion cand
          ∧ kindSet t.hlk.flags 4 = (kindSet s.hlk.flags 4 || decide (t.cac.stage ≠ s.cac.stage))
          ∧ (t.cac.stage ≠ s.cac.stage → checkpointAsked s.nvs t false)
          ∧ (t.cac.stage = s.cac.stage → t.nvs = s.nvs))
    ∧ (s.sup.mode = .outage →
      answers (exec (.accountSample volts amps valid) s) fun t =>
        let crossed := (s.cac.credit ≤ 0 ∧ 0 < t.cac.credit) ∨ (0 < s.cac.credit ∧ t.cac.credit ≤ 0)
        let wasFed (p : PortId) : Prop := (s.port p).state = .queued ∨ (s.port p).state = .fed
        let onCredit (p : PortId) : Prop := levelNow (s.port p) = some .p4 ∨ levelNow (s.port p) = some .p5
        let kept (p : PortId) : Prop := ∃ l, levelNow (s.port p) = some l ∧ admitsNow t.eff l (s.port p).hold
        (∀ p : PortId,
            (t.eff ≠ s.eff → rewoken s t p)
            ∧ (¬ wasFed p → t.port p = s.port p)
            ∧ (wasFed p → kept p → arbitrated (s.port p) (t.port p)
                ∧ ((t.port p).state = .queued ∨ (t.port p).state = .fed))
            ∧ (wasFed p → ¬ kept p → unfed t p
                ∧ (t.port p = ungranted (restState (s.port p)) (s.port p)
                  ∨ ((s.port p).state = .queued ∧ t.port p = { s.port p with state := restState (s.port p) }))
                ∧ ((t.eff = s.eff ∨ ¬ crossed) → (s.port p).state = .queued →
                    t.port p = { s.port p with state := restState (s.port p) }))
            ∧ ((s.port p).state = .fed → onCredit p → t.eff = .conserve → t.cac.credit ≤ 0 →
                (t.port p).state = .queued ∧ joined s t p))
          ∧ (t.eff = .conserve → t.cac.credit ≤ 0 → ∀ g ∈ t.fga.grants, g.level ≠ .p4 ∧ g.level ≠ .p5)
          ∧ (t.eff = s.eff → t.wakes = s.wakes)
          ∧ (effRank t.eff < effRank s.eff → settled t)
          ∧ (s.cac.credit ≤ 0 → 0 < t.cac.credit → settled t)
          ∧ (t.eff = s.eff → t.eff = .conserve → 0 < s.cac.credit → t.cac.credit ≤ 0 → settled t)
          ∧ (t.eff = s.eff → ¬ crossed → t.ports = s.ports ∧ t.fga = s.fga)
          ∧ ((t.eff = s.eff ∨ ¬ crossed) → t.freeUses = s.freeUses)
          ∧ ((t.eff = s.eff ∨ ¬ crossed) → (∃ p : PortId, (s.port p).state = .fed ∧ (t.port p).state ≠ .fed) → settled t)
          ∧ t = { s with
              cac := t.cac, ports := t.ports, wakes := t.wakes, fga := t.fga, nvs := t.nvs, freeUses := t.freeUses
              hlk := { s.hlk with flags := t.hlk.flags } })

/-- R34, R173: whatever command changes the stage, STAGE_CHANGE is pending and a checkpoint has been asked for; after START, in a part
whose ports keep their promises, the store is kept but for that and for its timer, and an outage end and a bank-low forcing ask once
more. -/
def Obligations.StageChangesReported : Prop :=
  ∀ (c : Instr) (s t : State), exec c s = .next t → t.cond = .running → t.sup.mode ≠ .start → t.cac.stage ≠ s.cac.stage →
    pending t 4 ∧ checkpointDue s t
      ∧ (s.PortsSound → s.sup.mode ≠ .start → ∃ again : Bool, checkpointAsked { s.nvs with cpTimer := t.nvs.cpTimer } t again)

/-- R38, R86, R104, R107, R110, R106: the tables that the effective stage governs: its own, the effective interval, the level of a
port, the levels admitted, the entries eligible for a grant and what fits. -/
def Obligations.StageTables : Prop :=
  ∀ s : State,
    (s.sup.mode ≠ .outage → s.eff = .standby)
      ∧ (s.sup.mode = .outage →
        (s.cac.stage = .noStage → s.eff = .conserve)
          ∧ (s.cac.stage = .openStage → s.hlk.supervision = .supervised → s.eff = .openStage)
          ∧ (s.cac.stage = .openStage → s.hlk.supervision = .autonomous → s.eff = .conserve)
          ∧ (s.cac.stage = .conserve → s.eff = .conserve)
          ∧ (s.cac.stage = .reserve → s.eff = .reserve)
          ∧ (s.cac.stage = .exhausted → s.eff = .exhausted))
      ∧ (∀ p : PortId, s.interval p = intervalOf s p ∧ (s.port p).level = levelNow (s.port p)
          ∧ s.burstLength p = burstNow s p
          ∧ (s.admitted p = true ↔
              match levelNow (s.port p) with
              | some l => admitsNow s.eff l (s.port p).hold
              | none => False))
      ∧ ∀ e : QueueEntry,
        (eligible s.eff s.cac.credit e.level (s.port e.port).hold = true ↔ eligibleNow s e)
          ∧ (s.fits e.port = true ↔ fitsNow s e)

/-- R21, R22, R41, R117: SET_ACCOUNT_PARAMS stores fifteen clamped values and nothing else of the account, answers with them, and
the grants are brought within the ceilings: they are taken lowest level first and youngest first, and no more of them than the ceilings
ask for, unless a waiting P1 entry then takes others (R112). ACCOUNT_RESET in STANDBY sets Q_used to 0, clears the uncertainty mark and asks for a
checkpoint, and is refused in OUTAGE. That an arbitration goes on to the victims of its own preemption, and may grant them anew, is
the model's inference (notes/assumptions/18.md). -/
def Obligations.AccountRequests : Prop :=
  (∀ (s : State) (g : AccountParams), s.PortsSound → takes s → s.hlk.supervision = .supervised →
    answers (exec (.setAccountParams g) s) fun t =>
      t.cac = { s.cac with params := paramsKept g }
        ∧ answered s t 0x04 (if paramsKept g = g then .ok else .okClamped) (paramsData (paramsKept g))
        ∧ t.CeilingsHold ∧ (∀ p : PortId, arbitrated (s.port p) (t.port p))
        ∧ ((paramsKept g).slotCeiling = s.cac.params.slotCeiling → (paramsKept g).bankCeiling = s.cac.params.bankCeiling →
            t.ports = s.ports ∧ t.fga = s.fga)
        ∧ ((paramsKept g).slotCeiling ≠ s.cac.params.slotCeiling ∨ (paramsKept g).bankCeiling ≠ s.cac.params.bankCeiling →
            settled t)
        ∧ (s.fga.counter < 4294967295 → takenInOrder s t
            ∧ ∀ v, takenLast s t v → (v.level = .p1 ∨ v.level = .p2 ∨ ∀ e ∈ s.fga.queue, e.level ≠ .p1) →
              ¬ ((keptGrants s t).length + 1 ≤ (paramsKept g).slotCeiling
                  ∧ ((keptGrants s t).map (·.limit)).sum + v.limit ≤ (paramsKept g).bankCeiling))
        ∧ t = { s with
            cac := t.cac, ports := t.ports, fga := t.fga, hlk := { s.hlk with replies := t.hlk.replies, priorFault := false } })
    ∧ (∀ s : State, takes s → s.sup.mode = .standby →
      answers (exec .accountReset s) fun t =>
        t.cac = { s.cac with qUsed := 0, uncertain := false } ∧ checkpointAsked s.nvs t false ∧ answered s t 0x05 .ok []
          ∧ t = { s with
              cac := t.cac, nvs := t.nvs, hlk := { s.hlk with replies := t.hlk.replies, priorFault := false } })
    ∧ ∀ s : State, takes s → s.sup.mode = .outage →
      exec .accountReset s =
        .next (replied s 0x05 (if s.hlk.supervision = .autonomous then .refusedAutonomous else .refusedMode) [])

/-! ### The host link -/

/-- R178, R179, R181, R3: a discarded frame, a gap and a break set the prior-fault flag and raise LINK_FAULT, and do nothing else: the
receiver was back in HUNT with the byte or break that ended the frame, which RequestFramesDecode states, and the command leaves it as it
stands (the model's choice, notes/assumptions/15.md); a
frame that completes after a RESTART was taken is no fault; an unknown request is answered BAD_REQUEST, in START too, unless its
body is all 0x00 or all 0xFF, and is discarded where 4 replies wait. The reply code of a request code of 0x80 or above, which the manual does not give, is a free value
(notes/assumptions/7.md). -/
def Obligations.FramesDiscarded : Prop :=
  ∀ s : State, s.cond = .running →
    let fault : Host.Outcome State Fault Refusal :=
      .next { s with hlk := { raised s.hlk 16 with priorFault := true } }
    exec .frameGapTimeout s = fault ∧ exec .lineBreak s = fault
      ∧ exec (.frameRejected .badLength) s = fault ∧ exec (.frameRejected .framingError) s = fault
      ∧ (∀ cause : RejectCause, cause ≠ .badLength → cause ≠ .framingError →
          (s.hlk.restarting = true → exec (.frameRejected cause) s = .next s)
            ∧ (s.hlk.restarting = false → (cause = .queueFull → s.hlk.replies.length = 4) →
                exec (.frameRejected cause) s = fault))
      ∧ (∀ (code : Byte) (data : List Byte), s.hlk.restarting = true → exec (.unknownRequest code data) s = .next s)
      ∧ ∀ (code : Byte) (data : List Byte), s.hlk.restarting = false →
        (4 ≤ s.hlk.replies.length → exec (.unknownRequest code data) s = fault)
          ∧ ((∀ b ∈ code :: data, b = 0x00#8) ∨ (∀ b ∈ code :: data, b = 0xFF#8) →
            exec (.unknownRequest code data) s = fault)
          ∧ ((∃ b ∈ code :: data, b ≠ 0x00#8) → (∃ b ∈ code :: data, b ≠ 0xFF#8) → s.hlk.replies.length < 4 →
            exec (.unknownRequest code data) s =
              .next { s with hlk := { s.hlk with
                priorFault := false
                replies := s.hlk.replies ++
                  [{ code := if code.toNat < 0x80 then code + 0x80#8 else Config.replyCodeBeyond code.toNat,
                     status := s.linkStatus, result := .badRequest, data := [] }] } })

/-- R1, R3, R179, R181, R185: a request reaching a part that is not running, or that has taken a RESTART, changes nothing; one that
finds 4 replies waiting is discarded, the receiver left as it stands (the model's choice, notes/assumptions/15.md); in START one that is not marked answered is answered BUSY with no effect. Replies leave in
order, each as its last byte is sent. RESTART is answered OK, and nothing is taken after it. That a request reaching a part that is
not running changes nothing is the model's inference (notes/assumptions/3.md). -/
def Obligations.RequestsInTheirTurn : Prop :=
  (∀ (c : Instr) (code : Nat) (inStart : Bool) (s : State), catalogue c = some (code, inStart) →
    (s.cond ≠ .running ∨ s.hlk.restarting = true → exec c s = .next s)
      ∧ (s.cond = .running → s.hlk.restarting = false → 4 ≤ s.hlk.replies.length →
        exec c s = .next { s with hlk := { raised s.hlk 16 with priorFault := true } })
      ∧ (s.cond = .running → s.hlk.restarting = false → s.hlk.replies.length < 4 → s.sup.mode = .start → inStart = false →
        exec c s = .next (replied s code .busy [])))
    ∧ (∀ (s : State) (r : Reply) (rest : List Reply), s.cond = .running → s.hlk.replies = r :: rest →
      r.code ≠ 0xE1#8 ∨ r.result ≠ .ok → exec .replySent s = .next { s with hlk := { s.hlk with replies := rest } })
    ∧ ∀ s : State, takes s → exec .restart s = .next (replied { s with hlk := { s.hlk with restarting := true } } 0x61 .ok [])

/-- R183, R40, R59, R184, R188: the requests that only read change nothing but the reply queue and the prior-fault flag; GET_IDENTITY
and GET_STATUS are answered in every mode; a part number above 2 is refused. What their data hold is stated in ReplyLayouts. That a
strap is sent as 1 for high and 0 for low is the model's choice (notes/assumptions/11.md). -/
def Obligations.ReadRequestsOnlyReply : Prop :=
  (∀ s : State, s.cond = .running → s.hlk.restarting = false → s.hlk.replies.length < 4 →
    exec .getIdentity s =
        .next (replied s 0x01 .ok
          [0x16#8, 1#8, 16#8, if s.straps.lockHigh then 1#8 else 0#8, if s.straps.speedHigh then 1#8 else 0#8])
      ∧ exec .getStatus s = .next (replied s 0x02 .ok s.statusData))
    ∧ ∀ s : State, takes s →
      exec .getAccount s = .next (replied s 0x03 .ok s.accountData)
        ∧ (∀ p : PortId, exec (.getPort p.val) s = .next (replied s 0x10 .ok (s.portData p)))
        ∧ exec (.getSchedule 0) s = .next (replied s 0x14 .ok s.wakeListData)
        ∧ exec (.getSchedule 1) s = .next (replied s 0x14 .ok s.feedData)
        ∧ exec (.getSchedule 2) s = .next (replied s 0x14 .ok s.testData)
        ∧ (∀ n : Nat, 2 < n → exec (.getSchedule n) s = .next (replied s 0x14 .badValue []))
        ∧ exec .getEvents s = .next (replied s 0x40 .ok s.eventsData)

/-- R14, R40, R59, R76, R177, R182 to R184, R188: what the data of GET_STATUS, GET_ACCOUNT, GET_PORT, GET_SCHEDULE, GET_EVENTS and
GET_NOTICE hold, figure by figure in the order of the rules, and how long they are: the same for every reply of one request. The link
status carries the prior fault, ATTN, RESTART pending, AUTONOMOUS and OUTAGE in its five lowest bits; a reply frame starts with 0xA6 and
its bytes from the length on sum to 0 (R180); a reply of m body bytes takes m + 3 characters of 10 bits at the speed of the SPEED strap
(R178, R181). The codings that R182 leaves open are the model's (notes/assumptions/11.md, 12.md, 13.md), and so is the early-bound
figure of a long window and of none, sent as 0 (notes/assumptions/25.md). -/
def Obligations.ReplyLayouts : Prop :=
  (∀ s : State, s.statusData = statusBytes s ∧ s.accountData = accountBytes s ∧ s.wakeListData = scheduleBytes s 0
    ∧ s.feedData = scheduleBytes s 1 ∧ s.testData = scheduleBytes s 2 ∧ s.eventsData = eventsBytes s
    ∧ ∀ p : PortId, s.portData p = portBytes s p ∧ mailboxData (s.port p).mailbox = noticeBytes (s.port p).mailbox)
    ∧ (∀ s : State, s.identityData.length = 5 ∧ s.statusData.length = 45 ∧ s.accountData.length = 88
      ∧ s.wakeListData.length = 81 ∧ s.feedData.length = 229 ∧ s.testData.length = 99 ∧ s.eventsData.length = 26
      ∧ ∀ p : PortId, (s.portData p).length = 120 ∧ (mailboxData (s.port p).mailbox).length = 10)
    ∧ (∀ (g : AccountParams) (q : Profile), paramsData g = paramsBytes g ∧ profileData q = profileBytes q)
    ∧ (∀ s : State, s.linkStatus =
        (if s.hlk.priorFault then 1#8 else 0#8) + (if s.attn then 2#8 else 0#8)
          + (if s.hlk.flags.getLsbD 16 then 4#8 else 0#8) + (if s.hlk.supervision = .autonomous then 8#8 else 0#8)
          + (if s.sup.mode = .outage then 16#8 else 0#8))
    ∧ (∀ r : Reply, r.frame.head? = some 0xA6#8 ∧ (r.frame.drop 1).foldl (· + ·) 0#8 = 0#8
        ∧ r.frame.length = r.data.length + 6 ∧ r.lineBits = 10 * r.frame.length)
    ∧ ∀ s : State, s.lineSpeed = if s.straps.speedHigh then 115200 else 19200

/-- R187, R189: SET_EVENT_ENABLE stores the seventeen enables; CLEAR_EVENTS clears the named kinds without a mask, and removes the
given ports from the masks of the named port kinds, a flag going with its last port; a bit at positions 17 to 23 is refused. That a kind set of three bytes is answered most significant
byte first is the model's inference (notes/assumptions/13.md). -/
def Obligations.EventRequests : Prop :=
  ∀ (s : State) (kinds : BitVec 24), takes s →
    (131072 ≤ kinds.toNat →
      exec (.setEventEnable kinds) s = .next (replied s 0x42 .badValue [])
        ∧ ∀ masks, exec (.clearEvents kinds masks) s = .next (replied s 0x41 .badValue []))
    ∧ (kinds.toNat < 131072 →
      exec (.setEventEnable kinds) s =
          .next (replied { s with hlk := { s.hlk with enables := kinds.setWidth 17 } } 0x42 .ok (u24 kinds.toNat))
        ∧ ∀ masks, answers (exec (.clearEvents kinds masks) s) fun t =>
          answered s t 0x41 .ok (u24 t.hlk.flags.toNat ++ masksData t.hlk.masks)
            ∧ (∀ k : PlainEvent, kindSet t.hlk.flags k.priority =
                (kindSet s.hlk.flags k.priority && !kinds.getLsbD (k.priority - 1)))
            ∧ (∀ k : PortEvent,
                maskOf t.hlk.masks k =
                    (if kinds.getLsbD (k.priority - 1) then maskOf s.hlk.masks k &&& ~~~(maskOf masks k)
                    else maskOf s.hlk.masks k)
                  ∧ kindSet t.hlk.flags k.priority =
                    (kindSet s.hlk.flags k.priority
                      && !(kinds.getLsbD (k.priority - 1) && maskOf t.hlk.masks k == 0)))
            ∧ t = { s with hlk := { s.hlk with
                flags := t.hlk.flags, masks := t.hlk.masks, replies := t.hlk.replies, priorFault := false } })

/-- R187, R188, R1: ATTN is asserted exactly when the part runs and some kind is pending and enabled; the first event is the kind of
highest priority that is both, with the lowest port of its mask for a port kind, and there is none exactly when no kind is both. -/
def Obligations.AttnAndFirstEvent : Prop :=
  ∀ s : State,
    let wanted (n : Nat) : Bool := kindSet s.hlk.flags n && kindSet s.hlk.enables n
    (s.attn = true ↔ s.cond = .running ∧ ∃ n, 1 ≤ n ∧ n ≤ 17 ∧ wanted n = true)
      ∧ (firstEvent s.hlk = none ↔ ∀ n, 1 ≤ n → n ≤ 17 → wanted n = false)
      ∧ ∀ (n : Nat) (o : Option PortId), firstEvent s.hlk = some (n, o) →
        1 ≤ n ∧ n ≤ 17 ∧ wanted n = true ∧ (∀ m, 1 ≤ m → m < n → wanted m = false)
          ∧ (∀ k : PlainEvent, k.priority = n → o = none)
          ∧ ∀ k : PortEvent, k.priority = n →
            (∀ p, o = some p → (maskOf s.hlk.masks k).getLsbD p.val = true
              ∧ ∀ q : PortId, q < p → (maskOf s.hlk.masks k).getLsbD q.val = false)
            ∧ (o = none → maskOf s.hlk.masks k = 0)

/-- R191: PRESENCE, row by row: a token other than 1 or 2 is refused; in STANDBY it is not checked; in OUTAGE the expected token in a
long window or past the early bound toggles the token and starts a normal window; any token before the early bound, or the wrong
token, moves the part to AUTONOMOUS; from AUTONOMOUS token 1 brings it back with a long window and token 2 is ignored. R39, R88, R111: where the stage
is OPEN the return eases the effective stage to OPEN, so each enabled port's wake entry is removed, made or kept and an arbitration
runs; at any other stage nothing is handed on. The reply
carries the supervision state and the expected token after the request. That an arbitration goes on to the victims of its own
preemption, and may grant them anew, is the model's inference (notes/assumptions/18.md). -/
def Obligations.PresenceTable : Prop :=
  ∀ (s : State) (token : Nat), takes s →
    (token ≠ 1 → token ≠ 2 → exec (.presence token) s = .next (replied s 0x50 .badValue []))
    ∧ (token = 1 ∨ token = 2 →
      (s.sup.mode = .standby → s.PresenceSound →
        exec (.presence token) s = .next (replied s 0x50 .ok [0#8, BitVec.ofNat 8 s.hlk.token]))
      ∧ (s.sup.mode = .outage → s.hlk.supervision = .supervised → token = s.hlk.token →
          ((∃ n, s.hlk.window = .long n) ∨ ∃ n, s.hlk.window = .normal n 0) →
        exec (.presence token) s =
          .next (replied { s with hlk := { s.hlk with token := 3 - token, window := .normal 60 5 } } 0x50 .ok
            [0#8, BitVec.ofNat 8 (3 - token)]))
      ∧ (s.sup.mode = .outage → s.hlk.supervision = .supervised → s.PresenceSound →
          (token ≠ s.hlk.token ∨ ∃ n early, s.hlk.window = .normal n (early + 1)) →
        answers (exec (.presence token) s) fun t =>
          t.hlk.supervision = .autonomous ∧ t.hlk.window = .noWindow ∧ t.hlk.token = s.hlk.token ∧ pending t 7
            ∧ (∀ p : PortId, (t.port p).hold = false)
            ∧ answered s t 0x50 .ok [1#8, BitVec.ofNat 8 s.hlk.token])
      ∧ (s.sup.mode = .outage → s.hlk.supervision = .autonomous → token = 1 →
        answers (exec (.presence token) s) fun t =>
          t.hlk.supervision = .supervised ∧ t.hlk.window = .long 300 ∧ t.hlk.token = 2 ∧ t.hlk.flags = s.hlk.flags
            ∧ (∀ p : PortId, (t.port p).hold = (s.port p).hold) ∧ t.cac = s.cac ∧ t.sup = s.sup
            ∧ (s.cac.stage ≠ .openStage → t.eff = s.eff ∧ t.ports = s.ports ∧ t.wakes = s.wakes ∧ t.fga = s.fga)
            ∧ (s.cac.stage = .openStage → t.eff = .openStage ∧ (∀ p : PortId, rewoken s t p)
                ∧ (s.PortsSound → settled t ∧ ∀ p : PortId, arbitrated (s.port p) (t.port p)))
            ∧ answered s t 0x50 .ok [0#8, 2#8]
            ∧ t = { s with
                ports := t.ports, wakes := t.wakes, fga := t.fga
                hlk := { s.hlk with
                  supervision := .supervised, token := 2, window := .long 300, replies := t.hlk.replies, priorFault := false } })
      ∧ (s.sup.mode = .outage → s.hlk.supervision = .autonomous → token = 2 →
        exec (.presence token) s = .next (replied s 0x50 .ok [1#8, BitVec.ofNat 8 s.hlk.token])))

/-- R121, R190, R192: the early bound of a normal window passes 5 s after the window starts, and does nothing before its last second (the
model's choice, notes/assumptions/2.md); a window that runs out in OUTAGE moves the part to AUTONOMOUS with no
window and PRESENCE_LOST, and leaves the account and the supervisor as they are. Whatever moves the part to AUTONOMOUS, no port has a
host hold afterwards; each port that had one has its burst timer started at its burst length, read under the effective stage before
or after the move; every other burst timer is kept; the wake entries follow a change of the effective stage (R88). R114, R115: a FED
port whose new level is P4 or P5 is released and queued again with a new arrival where the stage is then CONSERVE and the credit 0 or
less; a LIFELINE grant of P2 that rested on its hold in RESERVE is released, to AWAKE or IDLE, and so is an entry that did (the model's
inference, notes/assumptions/21.md); any other FED port stays FED with its grant at its new level, unless an arbitration takes it for
a P1 entry that was waiting; any other QUEUED port stays QUEUED with its arrival or is granted; every other port keeps all but hold and
burst timer. A QUEUED port that fell from P3 has run an arbitration. That an arbitration goes on to the victims of its own
preemption, and may grant them anew, is the model's inference (notes/assumptions/18.md). -/
def Obligations.PresenceLost : Prop :=
  ((∀ (s : State) (n early : Nat), s.cond = .running → s.hlk.window = .normal n early →
     (early ≤ 1 → exec .presenceEarlyBound s = .next { s with hlk := { s.hlk with window := .normal n 0 } })
       ∧ (1 < early → exec .presenceEarlyBound s = .next s))
     ∧ ∀ s : State, s.cond = .running → s.sup.mode = .outage → s.hlk.supervision = .supervised → s.hlk.window ≠ .noWindow →
       answers (exec .presenceWindowExpiry s) fun t =>
         t.hlk = { raised s.hlk 7 with supervision := .autonomous, window := .noWindow }
           ∧ t = { s with ports := t.ports, wakes := t.wakes, fga := t.fga, hlk := t.hlk, freeUses := t.freeUses }
           ∧ ∀ p : PortId, (t.port p).hold = false)
    ∧ (∀ (c : Instr) (s t : State), s.PortsSound → exec c s = .next t → s.hlk.supervision = .supervised →
      t.hlk.supervision = .autonomous →
      t.hlk.window = .noWindow ∧ pending t 7
        ∧ (t.eff = s.eff → t.wakes = s.wakes) ∧ (t.eff ≠ s.eff → ∀ p : PortId, rewoken s t p)
        ∧ (∀ p : PortId,
          let q := { s.port p with hold := false, burst := (t.port p).burst }
          let refused := s.eff = .reserve ∧ levelNow q ≠ some .p1
          let onCredit := levelNow q = some .p4 ∨ levelNow q = some .p5
          let waits := t.eff = .conserve ∧ onCredit ∧ s.cac.credit ≤ 0
          (t.port p).hold = false
            ∧ ((s.port p).hold = true → (t.port p).burst = some (burstNow s p) ∨ (t.port p).burst = some (burstNow t p))
            ∧ ((s.port p).hold = false → (t.port p).burst = (s.port p).burst)
            ∧ (q.state ≠ .queued → q.state ≠ .fed → t.port p = q)
            ∧ (q.state = .queued → refused → t.port p = { q with state := restState q } ∧ unfed t p)
            ∧ (q.state = .fed → refused → t.port p = ungranted (restState q) q ∧ unfed t p)
            ∧ (q.state = .queued → ¬ refused → waits →
                t.port p = q ∨ (t.eff ≠ s.eff ∧ t.port p = ungranted .queued q))
            ∧ (q.state = .queued → ¬ refused → ¬ waits → t.port p = q ∨ t.port p = granted q)
            ∧ (q.state = .queued → t.eff = s.eff → placeKept s t p)
            ∧ (q.state = .queued → q.profile.cls = .standard → (s.port p).hold = true → settled t)
            ∧ (q.state = .fed → waits → t.port p = ungranted .queued q ∧ joined s t p)
            ∧ (q.state = .fed → ¬ refused → ¬ waits →
                arbitrated q (t.port p)
                  ∧ (¬ onCredit ∨ (∀ e ∈ s.fga.queue, e.level ≠ .p1) → t.port p = q ∧ placeKept s t p)))
        ∧ t = { s with ports := t.ports, wakes := t.wakes, fga := t.fga, hlk := t.hlk, freeUses := t.freeUses })

/-- R42, R51, R99, R192: requests refused with no effect. A port above 15 is refused with BAD_PORT by every request that carries one; a
class or a yes-no code that is none by SET_PROFILE with BAD_VALUE; and in OUTAGE, while supervision is AUTONOMOUS, WAKE, FEED, RELEASE,
SET_PROFILE, SET_ACCOUNT_PARAMS and ACCOUNT_RESET with good operands are refused with REFUSED_AUTONOMOUS. -/
def Obligations.RequestsRefused : Prop :=
  (∀ (s : State) (n : Nat), takes s → 15 < n →
    exec (.getPort n) s = .next (replied s 0x10 .badPort []) ∧ exec (.clearLockout n) s = .next (replied s 0x12 .badPort [])
      ∧ exec (.getNotice n) s = .next (replied s 0x13 .badPort []) ∧ exec (.feed n) s = .next (replied s 0x21 .badPort [])
      ∧ exec (.release n) s = .next (replied s 0x22 .badPort []) ∧ exec (.lineTest n) s = .next (replied s 0x30 .badPort [])
      ∧ ∀ other : Nat,
        exec (.wake n other) s = .next (replied s 0x20 .badPort [])
          ∧ exec (.cellTest n other) s = .next (replied s 0x31 .badPort []))
    ∧ (∀ (s : State) (g : ProfileRequest), takes s →
      (15 < g.port → exec (.setProfile g) s = .next (replied s 0x11 .badPort []))
        ∧ (g.port < 16 → ¬ codesGood g → exec (.setProfile g) s = .next (replied s 0x11 .badValue [])))
    ∧ ∀ s : State, takes s → s.sup.mode = .outage → s.hlk.supervision = .autonomous →
      (∀ (p : PortId) (urgency : Nat), urgency ≤ 1 →
        exec (.wake p.val urgency) s = .next (replied s 0x20 .refusedAutonomous []))
        ∧ (∀ p : PortId,
            exec (.feed p.val) s = .next (replied s 0x21 .refusedAutonomous [])
              ∧ exec (.release p.val) s = .next (replied s 0x22 .refusedAutonomous []))
        ∧ (∀ g : ProfileRequest, g.port < 16 → codesGood g →
            exec (.setProfile g) s = .next (replied s 0x11 .refusedAutonomous []))
        ∧ (∀ g : AccountParams, exec (.setAccountParams g) s = .next (replied s 0x04 .refusedAutonomous []))
        ∧ exec .accountReset s = .next (replied s 0x05 .refusedAutonomous [])

/-! ### The store -/

/-- R170, R171, R175: SAVE_PROFILES is refused while the LOCK strap was high, answered BUSY while a save is waiting or under way,
begins at once on an idle store with the runtime copies of that moment, and waits behind a checkpoint write. -/
def Obligations.SaveRequests : Prop :=
  ∀ s : State, takes s →
    (s.straps.lockHigh = true → exec .saveProfiles s = .next (replied s 0x60 .refusedLocked []))
    ∧ (s.straps.lockHigh = false → s.nvs.waitingSave = true ∨ s.nvs.activity.isSaving = true →
      exec .saveProfiles s = .next (replied s 0x60 .busy []))
    ∧ (s.straps.lockHigh = false → s.nvs.waitingSave = false → s.nvs.activity = .idle →
      exec .saveProfiles s =
        .next (replied { s with nvs := { s.nvs with
          activity := .saving { profiles := s.ports.map (·.profile), params := s.cac.params, enables := s.hlk.enables }
          area := none } } 0x60 .ok []))
    ∧ (s.straps.lockHigh = false → s.nvs.waitingSave = false → s.nvs.activity.isWriting = true →
      exec .saveProfiles s = .next (replied { s with nvs := { s.nvs with waitingSave := true } } 0x60 .ok []))

/-- R171, R173, R174, R175: the end of a save and of a checkpoint write, by whether the check word agrees: what becomes of the area,
the slot, the highest sequence and the last save result, STORE_FAULT, and then the next operation, a pending checkpoint before a
waiting save, which takes the runtime copies of that moment. The rest of the store is kept. The checkpoint timer that runs out asks for a checkpoint and restarts with the period of the mode. -/
def Obligations.StoreWritesEnd : Prop :=
  (∀ (s : State) (a : AreaContents) (agrees : Bool), s.StoreSound → s.cond = .running → s.nvs.activity = .saving a →
    answers (exec (.saveEnd agrees) s) fun t =>
      nextBegun { s.nvs with area := if agrees then some a else none, saveResult := if agrees then .done else .failed } t
        ∧ t.hlk = (if agrees then s.hlk else raised s.hlk 15) ∧ t = { s with nvs := t.nvs, hlk := t.hlk })
    ∧ (∀ (s : State) (k : Checkpoint) (agrees : Bool), s.StoreSound → s.cond = .running →
      s.nvs.activity = .writingCheckpoint k →
      answers (exec (.checkpointWriteEnd agrees) s) fun t =>
        nextBegun { s.nvs with
            ring := s.nvs.ring.setIfInBounds s.nvs.lastSlot (if agrees then some k else none)
            highSequence := if agrees then k.sequence else s.nvs.highSequence } t
          ∧ t.hlk = (if agrees then s.hlk else raised s.hlk 15) ∧ t = { s with nvs := t.nvs, hlk := t.hlk })
    ∧ ∀ s : State, s.cond = .running → s.nvs.cpTimer.isSome →
      answers (exec .checkpointTimerExpiry s) fun t =>
        checkpointAsked { s.nvs with cpTimer := some (if s.sup.mode = .outage then 300 else 3600) } t false
          ∧ t = { s with nvs := t.nvs }

/-- R174, R176: whatever command a checkpoint write begins in, it goes to the slot after the last one written, slot 0 following slot 31;
that slot holds nothing valid from then on, and the write carries the number after the highest valid one and the charge, the mode, E and
the lockout mask as they stand. Every other slot is kept, but for the slot of a write that the command has ended (StoreWritesEnd states
it); the first write after an unread ring leaves every other slot invalid. -/
def Obligations.CheckpointCarriesPresentValues : Prop :=
  ∀ (c : Instr) (s t : State) (k : Checkpoint), s.PortsSound → s.StoreSound → exec c s = .next t →
    t.nvs.activity = .writingCheckpoint k → s.nvs.activity ≠ .writingCheckpoint k →
    carriesPresent t k
      ∧ t.nvs.ring[t.nvs.lastSlot]? = some none ∧ t.nvs.ringUnread = false
      ∧ (recoveryReads c = none → t.nvs.lastSlot = (s.nvs.lastSlot + 1) % 32
          ∧ ∀ j : Fin 32, j.val ≠ t.nvs.lastSlot → s.nvs.activity.isWriting = false ∨ j.val ≠ s.nvs.lastSlot →
            t.nvs.ring[j.val] = (if s.nvs.ringUnread then none else s.nvs.ring[j.val]))
      ∧ ∀ area ring : Bool, recoveryReads c = some (area, ring) → t.nvs.lastSlot = (lastSlotNow s ring + 1) % 32
          ∧ ∀ j : Fin 32, j.val ≠ t.nvs.lastSlot → t.nvs.ring[j.val] = (if ring then s.nvs.ring[j.val] else none)

/-! ### The port table -/

/-- R53, R54, R158: enabling takes an OFF port to IDLE with its receiver listening, in OUTAGE makes its wake entry due at E + 30 where
it has an interval, and in STANDBY asks for its periodic line test if that is overdue; a port that stays disabled only stores its
values. -/
def Obligations.PortEnabled : Prop :=
  ∀ (s : State) (g : ProfileRequest) (p : PortId), s.PortsSound → takes s → s.hlk.supervision = .supervised → g.port = p.val →
    codesGood g → (s.port p).profile.enabled = false →
    answers (exec (.setProfile g) s) fun t =>
      let tested := g.enabled = 1 ∧ s.sup.mode = .standby ∧ (s.port p).periodicDue ≤ s.sup.partTime
      t.port p =
          (if g.enabled = 1 then
            { s.port p with
              profile := profileKept g, state := .idle, rx := .hunt
              periodicDue :=
                if tested then later s.sup.partTime (s.cac.params.lineInterval * 3600) else (s.port p).periodicDue }
          else { s.port p with profile := profileKept g })
        ∧ t.pdi =
            (if tested then { s.pdi with queue := s.pdi.queue ++ [⟨p, .periodic, s.sup.partTime⟩] } else s.pdi)
        ∧ othersKept s t p
        ∧ (∀ q : PortId, q ≠ p → t.wakeOf q = s.wakeOf q)
        ∧ t.wakeOf p =
            (if g.enabled = 1 ∧ s.sup.mode = .outage ∧ (intervalOf t p).isSome then some (later s.sup.outageTime 30) else none)
        ∧ answered s t 0x11 (if profileMoved g then .okClamped else .ok) (profileData (profileKept g))
        ∧ t = { s with
            ports := t.ports, wakes := t.wakes, pdi := t.pdi
            hlk := { s.hlk with replies := t.hlk.replies, priorFault := false } }

/-- R55, R47, R151, R165: disabling ends everything an enabled port has under way: it is OFF, its entries and its grant are gone, its
timers and its trip count are cleared, a cell test and a line test of it are aborted, LINE_TEST_DONE is raised for the latter, and a
checkpoint is asked for if it was locked. What the rule keeps is kept. That an arbitration goes on to the victims of its own
preemption, and may grant them anew, is the model's inference (notes/assumptions/18.md). -/
def Obligations.PortDisabled : Prop :=
  ∀ (s : State) (g : ProfileRequest) (p : PortId), s.PortsSound → takes s → s.hlk.supervision = .supervised → g.port = p.val →
    codesGood g → (s.port p).profile.enabled = true → g.enabled = 0 →
    answers (exec (.setProfile g) s) fun t =>
      t.port p =
          { s.port p with
            profile := profileKept g, state := .off, term := .unknown, hold := false, standbyFeed := false, cellLow := false
            lockReason := none, burst := none, silence := none, checkin := none, rx := .gated
            tx := ⟨false, none, none, none⟩
            lineAttempt := if (s.port p).state = .lineTest then some .aborted else (s.port p).lineAttempt
            switch := { opened (s.port p).switch with trips := 0, backoff := none }
            cell :=
              { due := if (s.port p).state = .cellTest then later s.sup.partTime 3600 else (s.port p).cell.due
                phase := .noTest, duration := none, report := none } }
        ∧ othersArbitrated s t p ∧ unfed t p ∧ t.wakeOf p = none ∧ t.pdi.queue = s.pdi.queue.filter (fun e => e.port != p)
        ∧ (∀ q : PortId, q ≠ p → t.wakeOf q = s.wakeOf q)
        ∧ t.pdi.instrument = (if (s.port p).state = .lineTest then none else s.pdi.instrument)
        ∧ ((s.port p).state = .fed → settled t)
        ∧ ((s.port p).state ≠ .fed → ∀ q : PortId, q ≠ p → t.port q = s.port q)
        ∧ (s.locked p = true → checkpointAsked s.nvs t false) ∧ (s.locked p = false → t.nvs = s.nvs)
        ∧ answered s t 0x11 (if profileMoved g then .okClamped else .ok) (profileData (profileKept g))
        ∧ t.hlk = { (if (s.port p).state = .lineTest then raisedPort s.hlk .lineTestDone p else s.hlk) with
            replies := t.hlk.replies, priorFault := false }
        ∧ t = { s with ports := t.ports, wakes := t.wakes, fga := t.fga, pdi := t.pdi, nvs := t.nvs, hlk := t.hlk }

/-- R54, R56, R57, R58: SET_PROFILE on a port that stays enabled. Its state is kept unless its class changes while it is QUEUED or
FED; a class made DEFERRED takes it out of the queue and the grants to AWAKE or IDLE, without host hold and standby feed; in OUTAGE a change of class or of wake interval sets its wake
entry by the new interval, and no other change moves it; its timers and its test are kept, and so are its entry and its grant, with
the granted limit, unless the class changes. A change between LIFELINE and STANDARD puts its entry or its grant at its new level: a port
that stays FED keeps the number, the limit and the time of its grant, one that stays QUEUED its arrival. It leaves the queue or the
grants only in RESERVE, where its new level is not admitted, and a FED port is queued again only in CONSERVE at P4 or P5 with the
credit 0 or less; any other FED port stays FED. That an arbitration goes on to the victims of its own preemption, and may grant them
anew, is the model's inference (notes/assumptions/18.md). -/
def Obligations.LiveProfileChanged : Prop :=
  ∀ (s : State) (g : ProfileRequest) (p : PortId), s.PortsSound → takes s → s.hlk.supervision = .supervised → g.port = p.val →
    codesGood g → (s.port p).profile.enabled = true → g.enabled = 1 →
    answers (exec (.setProfile g) s) fun t =>
      let old := (s.port p).profile
      let new := profileKept g
      let fed := (s.port p).state = .queued ∨ (s.port p).state = .fed
      answered s t 0x11 (if profileMoved g then .okClamped else .ok) (profileData new)
        ∧ (t.port p).profile = new ∧ (t.port p).term = (s.port p).term ∧ (t.port p).burst = (s.port p).burst
        ∧ (t.port p).silence = (s.port p).silence ∧ (t.port p).checkin = (s.port p).checkin
        ∧ (t.port p).cell = (s.port p).cell ∧ (t.port p).lockReason = (s.port p).lockReason
        ∧ (old.cls = new.cls ∨ ¬ fed →
            t.port p = { s.port p with profile := new } ∧ othersKept s t p ∧ t.fga = s.fga)
        ∧ (old.cls ≠ new.cls → fed → new.cls = .deferred →
            let q := { s.port p with profile := new, hold := false, standbyFeed := false }
            t.port p = (if q.state = .fed then ungranted (restState q) q else { q with state := restState q }) ∧ unfed t p
              ∧ (q.state = .fed → settled t) ∧ (q.state = .queued → othersKept s t p))
        ∧ (old.cls ≠ new.cls → fed → new.cls ≠ .deferred →
            let q := { s.port p with profile := new }
            let refused := s.eff = .reserve ∧ ¬ (levelNow q = some .p1 ∨ (levelNow q = some .p2 ∧ q.hold = true))
            let waits := s.eff = .conserve ∧ (levelNow q = some .p4 ∨ levelNow q = some .p5) ∧ s.cac.credit ≤ 0
            (q.state = .queued → refused → t.port p = { q with state := restState q } ∧ unfed t p ∧ othersKept s t p)
            ∧ (q.state = .queued → ¬ refused → arbitrated q (t.port p) ∧ settled t)
            ∧ (q.state = .fed → refused → t.port p = ungranted (restState q) q ∧ unfed t p ∧ settled t)
            ∧ (q.state = .fed → waits → t.port p = ungranted .queued q ∧ settled t ∧ joined s t p)
            ∧ (q.state = .fed → ¬ refused → ¬ waits → t.port p = q ∧ othersKept s t p)
            ∧ placeKept s t p)
        ∧ (∀ e ∈ t.fga.queue, e.port = p → levelNow (t.port p) = some e.level)
        ∧ (∀ g ∈ t.fga.grants, g.port = p → levelNow (t.port p) = some g.level)
        ∧ othersArbitrated s t p
        ∧ (∀ q : PortId, q ≠ p → t.wakeOf q = s.wakeOf q)
        ∧ t.wakeOf p =
            (if s.sup.mode = .outage ∧ (old.cls ≠ new.cls ∨ old.wakeInterval ≠ new.wakeInterval) then
              (intervalOf t p).map (later s.sup.outageTime)
            else s.wakeOf p)
        ∧ t = { s with
            ports := t.ports, wakes := t.wakes, fga := t.fga
            hlk := { s.hlk with replies := t.hlk.replies, priorFault := false } }

/-- R47, R50: after START, whatever command changes the lockout mask, a checkpoint has been asked for; the mask is the set of ports
LOCKED or in LINE_TEST borrowed from LOCKED, and the lifeline count is that of the enabled LIFELINE ports outside it. -/
def Obligations.LockoutsAskCheckpoint : Prop :=
  (∀ (c : Instr) (s t : State), s.PortsSound → exec c s = .next t → s.sup.mode ≠ .start → t.sup.mode ≠ .start →
    t.lockoutMask ≠ s.lockoutMask → checkpointAsked s.nvs t false)
    ∧ ∀ s : State, s.PortsSound →
      s.lifelineCount = lifelinesNow s
        ∧ ∀ p : PortId, s.lockoutMask.getLsbD p.val =
            ((s.port p).state == .locked
              || ((s.port p).state == .lineTest && s.pdi.instrument.map (·.borrowed) == some .fromLocked))

/-! ### The line -/

/-- R66 to R69, R64, R70, R71: the messages that go no further. Each adds to its own counter, and to the corrected headers if its header
was corrected; every other thing is as it was. So is the receiver, which was back in HUNT with the bit that ended the message, as
MessagesDecode states; that the command leaves it as it stands is the model's choice (notes/assumptions/15.md). A gated receiver hears nothing. -/
def Obligations.LineMessagesCounted : Prop :=
  ∀ (s : State) (p : PortId) (corrected : Bool), s.cond = .running →
    let q := s.port p
    let fixed := if corrected then up q.counters.corrected else q.counters.corrected
    let counts (k : Counters) : Host.Outcome State Fault Refusal :=
      .next (s.setPort p { q with counters := { k with corrected := fixed } })
    (q.rx ≠ .gated →
      exec (.lineMessageDiscarded p corrected) s = counts { q.counters with good := up q.counters.good }
        ∧ exec (.headerRejected p corrected) s = counts { q.counters with uncorrectable := up q.counters.uncorrectable }
        ∧ exec (.checkFailure p corrected) s = counts { q.counters with checkFailed := up q.counters.checkFailed }
        ∧ exec (.messageCutOff p corrected) s = counts { q.counters with cutOff := up q.counters.cutOff })
    ∧ (q.rx = .gated →
      ∀ c ∈ [Instr.lineMessageDiscarded p corrected, .headerRejected p corrected, .checkFailure p corrected,
          .messageCutOff p corrected], exec c s = .next s)

/-- R61, R62, R65 to R71: a header as sent is used as received; with any one of its 13 bits inverted its data is recovered and counted as
corrected; with any two inverted it is not correctable. A message, written out as the terminal sends it, is the command it stands for,
with a header as sent or with any one bit of it inverted; with its check byte altered it is a check failure, and ended before its check
it is cut off. A body is a CHECKIN, a NOTICE or a CELL_REPORT by its kind and its length, and discarded otherwise, as is a CHECKIN whose
condition is not 1, 2 or 3. A header that is not correctable, and one that declares a body of 13 to 15 bytes, as sent or corrected, ends
the message as HEADER_REJECTED with its 13th bit. A check failure and a cut-off carry the mark of a corrected header, a cut-off before
the header has ended not. In a running part a bit, or a loss of the bit timing, on a pair changes the receiver of that port alone, and
the command it ends joins the end of the queue; a GATED receiver hears nothing. Bit by bit, a receiver that hunts finds a sync without error, takes the header, the body and the check, and
hands the command over with the last bit; one bit of the sync in error, and it finds none. In HUNT each bit is compared together with the 15
received before it, those of a message that has ended, been discarded or been cut off among them. The part's own orders are messages of
kind 9 and 8 in the same form. That the receivers are driven by operations outside the table's commands, what they hold in each
state, and that their commands join the end of the queue, is the model's choice (notes/assumptions/15.md, 16.md). -/
def Obligations.MessagesDecode : Prop :=
  (∀ data : Byte,
     judgeHeader (headerOf data) = .used data false
       ∧ (∀ k : Fin 13, judgeHeader (invert (headerOf data) (k.val + 1)) = .used data true)
       ∧ ∀ j k : Fin 13, j < k → judgeHeader (invert (invert (headerOf data) (j.val + 1)) (k.val + 1)) = .notCorrectable)
    ∧ (∀ (p : PortId) (data : Byte) (body : List Byte), data.toNat % 16 = body.length → body.length ≤ 12 →
      messageOf p (headerOf data) (bodyAndCheck data body) = goodMessage p false (data.toNat / 16) body
        ∧ (∀ k : Fin 13, messageOf p (invert (headerOf data) (k.val + 1)) (bodyAndCheck data body) =
            goodMessage p true (data.toNat / 16) body
          ∧ (∀ check : Byte, check ≠ crcOf (data :: body) →
              messageOf p (invert (headerOf data) (k.val + 1)) (body ++ [check]) = .checkFailure p true)
          ∧ ∀ n : Nat, n ≤ body.length → messageOf p (invert (headerOf data) (k.val + 1)) (body.take n) = .messageCutOff p true)
        ∧ (∀ check : Byte, check ≠ crcOf (data :: body) → messageOf p (headerOf data) (body ++ [check]) = .checkFailure p false)
        ∧ (∀ n : Nat, n ≤ body.length → messageOf p (headerOf data) (body.take n) = .messageCutOff p false)
        ∧ (RxState.hunt []).hearAll p (messageBits data body) =
            (.hunt ((messageBits data body).reverse.take 15), [goodMessage p false (data.toNat / 16) body])
        ∧ ∀ n : Nat, 16 ≤ n → n < (messageBits data body).length →
            ((RxState.hunt []).hearAll p ((messageBits data body).take n)).1.loseTiming p =
              (.hunt (((messageBits data body).take n).reverse.take 15), some (.messageCutOff p false)))
    ∧ (∀ (p : PortId) (bit : Bool) (before : List Bool), (RxState.hunt before).hear p bit =
        (if (bit :: before).reverse = fieldBits syncPattern then .header [] else .hunt ((bit :: before).take 15), none))
    ∧ (∀ (p : PortId) (data : Byte) (body : List Byte) (k : Fin 13), data.toNat % 16 = body.length → body.length ≤ 12 →
      let bits := fieldBits syncPattern ++ fieldBits (invert (headerOf data) (k.val + 1)) ++ (bodyAndCheck data body).flatMap fieldBits
      (RxState.hunt []).hearAll p bits = (.hunt (bits.reverse.take 15), [goodMessage p true (data.toNat / 16) body])
        ∧ ∀ n : Nat, 16 ≤ n → n < bits.length →
            ((RxState.hunt []).hearAll p (bits.take n)).1.loseTiming p =
              (.hunt ((bits.take n).reverse.take 15), some (.messageCutOff p (decide (29 ≤ n)))))
    ∧ (∀ (s : State) (p : PortId), s.cond = .running →
      let heard (r : RxState × Option Instr) : State :=
        { s.setPort p { s.port p with rx := r.1 } with pending := s.pending ++ r.2.toList }
      (∀ bit : Bool, s.pairBit p bit = heard ((s.port p).rx.hear p bit))
        ∧ s.pairTimingLost p = heard ((s.port p).rx.loseTiming p)
        ∧ ((s.port p).rx = .gated → (∀ bit : Bool, s.pairBit p bit = s) ∧ s.pairTimingLost p = s))
    ∧ (∀ (p : PortId) (header : BitVec 13) (corrected : Bool),
      ((∃ (data : Byte) (j k : Fin 13), j < k ∧ header = invert (invert (headerOf data) (j.val + 1)) (k.val + 1) ∧ corrected = false)
        ∨ ∃ data : Byte, 12 < data.toNat % 16
            ∧ ((header = headerOf data ∧ corrected = false)
              ∨ ∃ k : Fin 13, header = invert (headerOf data) (k.val + 1) ∧ corrected = true)) →
      let bits := fieldBits syncPattern ++ fieldBits header
      (∀ bytes : List Byte, messageOf p header bytes = .headerRejected p corrected)
        ∧ (RxState.hunt []).hearAll p bits = (.hunt (bits.reverse.take 15), [.headerRejected p corrected]))
    ∧ (∀ (p : PortId) (k : Fin 16),
      ((RxState.hunt []).hearAll p (fieldBits (syncPattern ^^^ BitVec.twoPow 16 k.val))).1.taking = false)
    ∧ (∀ (p : PortId) (corrected : Bool),
      (∀ (identity : BitVec 48) (volts : Nat), volts < 65536 →
        goodMessage p corrected 1 (big 6 identity.toNat ++ big 1 1 ++ big 2 volts) = .checkin p corrected identity .sleepNext volts
          ∧ goodMessage p corrected 1 (big 6 identity.toNat ++ big 1 2 ++ big 2 volts) = .checkin p corrected identity .awake volts
          ∧ goodMessage p corrected 1 (big 6 identity.toNat ++ big 1 3 ++ big 2 volts) = .checkin p corrected identity .call volts
          ∧ ∀ code : Nat, code = 0 ∨ (3 < code ∧ code < 256) →
            goodMessage p corrected 1 (big 6 identity.toNat ++ big 1 code ++ big 2 volts) = .lineMessageDiscarded p corrected)
      ∧ (∀ code detail : Byte, goodMessage p corrected 2 [code, detail] = .notice p corrected code detail)
      ∧ (∀ vOpen vLoaded iLoad : Nat, vOpen < 65536 → vLoaded < 65536 → iLoad < 65536 →
        goodMessage p corrected 3 (big 2 vOpen ++ big 2 vLoaded ++ big 2 iLoad) = .cellReport p corrected vOpen vLoaded iLoad)
      ∧ ∀ (kind : Nat) (body : List Byte), (kind = 1 → body.length ≠ 9) → (kind = 2 → body.length ≠ 2) →
        (kind = 3 → body.length ≠ 6) → goodMessage p corrected kind body = .lineMessageDiscarded p corrected)
    ∧ (∀ fed : Bool, (Sending.feedState fed).bits = messageBits (BitVec.ofNat 8 (9 * 16 + 1)) [if fed then 1#8 else 0#8])
    ∧ (∀ d : Nat, (Sending.cellOrder d).bits = messageBits (BitVec.ofNat 8 (8 * 16 + 1)) [BitVec.ofNat 8 d])
    ∧ ∀ (data : Byte) (body : List Byte), (messageBits data body).length = 16 + 13 + 8 * body.length + 8

/-- R178 to R181: every request of the catalogue, written out as a frame with its code, its data and its check byte, is the command it
stands for, with every operand as it was sent. Byte by byte, a receiver that hunts ignores every byte but the start byte and hands the
command over with the check byte, hunting again; a length of 0 or above 60, and a wrong check byte, discard the frame; inside a frame
so do a framing error and a gap, which mean nothing while it hunts; a break acts in every state. That the receiver is driven outside
the table's commands, and that what it hands over joins the end of the queue, is the model's choice (notes/assumptions/15.md, 16.md);
so is the order of the bytes of a number, a kind set or a port mask in the data of a request, most significant first
(notes/assumptions/27.md). -/
def Obligations.RequestFramesDecode : Prop :=
  (∀ (c : Instr) (code : Nat) (inStart : Bool), catalogue c = some (code, inStart) → c.wellFormed = true →
     frameOf (requestFrame code (requestData c)) = some c
       ∧ ∀ noise : List Byte, 0xA6#8 ∉ noise →
         FrameRx.hunt.takeAll ((noise ++ requestFrame code (requestData c)).map .byte) = (.hunt, [c])
           ∧ ∀ check : Byte, checkByte ((requestFrame code (requestData c)).drop 1).dropLast ≠ check →
             FrameRx.hunt.takeAll ((noise ++ (requestFrame code (requestData c)).dropLast ++ [check]).map .byte) =
               (.hunt, [.frameRejected .badSum]))
    ∧ (∀ n : Byte, n = 0#8 ∨ 60 < n.toNat → FrameRx.hunt.takeAll [.byte 0xA6#8, .byte n] = (.hunt, [.frameRejected .badLength]))
    ∧ (∀ r : FrameRx,
      r.take .lineBreak = (.hunt, some .lineBreak)
        ∧ (r ≠ .hunt → r.take .framingError = (.hunt, some (.frameRejected .framingError))
            ∧ r.take .gap = (.hunt, some .frameGapTimeout))
        ∧ (r = .hunt → r.take .framingError = (.hunt, none) ∧ r.take .gap = (.hunt, none)))
    ∧ ∀ (s : State) (e : RxdEvent), s.cond = .running →
      s.rxd e = { s with
        hlk := { s.hlk with frameRx := (s.hlk.frameRx.take e).1 }
        pending := s.pending ++ (s.hlk.frameRx.take e).2.toList }

/-- R68, R74, R75, R76: a notice that arrives is counted and written into the mailbox with its part time, replacing one already there
and setting the overrun flag, and raises NOTICE_WAITING; outside STANDBY, and for codes other than 1 and 2, it does no more, the receiver left as it stands (the model's choice, notes/assumptions/15.md).
GET_NOTICE answers with the mailbox and empties it, and clears no event. -/
def Obligations.NoticesAndMailbox : Prop :=
  (∀ (s : State) (p : PortId) (corrected : Bool) (code detail : Byte), s.cond = .running → (s.port p).rx ≠ .gated →
    answers (exec (.notice p corrected code detail) s) fun t =>
      let q := s.port p
      (t.port p).mailbox = ⟨some ⟨code, detail, s.sup.partTime⟩, q.mailbox.overrun || q.mailbox.held.isSome⟩
        ∧ (t.port p).counters = { q.counters with
            good := up q.counters.good, corrected := if corrected then up q.counters.corrected else q.counters.corrected }
        ∧ t.hlk = raisedPort s.hlk .noticeWaiting p
        ∧ (s.sup.mode ≠ .standby ∨ (code ≠ 1#8 ∧ code ≠ 2#8) →
            t.port p = { q with mailbox := (t.port p).mailbox, counters := (t.port p).counters }
              ∧ othersKept s t p ∧ t = { s with ports := t.ports, hlk := t.hlk }))
    ∧ ∀ (s : State) (p : PortId), takes s →
      exec (.getNotice p.val) s =
        .next (replied (s.setPort p { s.port p with mailbox := ⟨none, false⟩ }) 0x13 .ok (mailboxData (s.port p).mailbox))

/-- R105, R122, R123: in STANDBY a LOCAL_POWER_LOST begins a standby feed on an IDLE port of class LIFELINE or STANDARD, which is then
QUEUED with a new arrival or FED with a new grant, and nothing else acts on it in another state; a LOCAL_POWER_BACK clears the flag and takes a port that no host hold
keeps out of the queue and the grants to IDLE, a FED one with its switch open and UNFED asked for. What the notice does to the mailbox
and the counters, NoticesAndMailbox says; that it leaves the receiver as it stands is the model's choice (notes/assumptions/15.md).
That an arbitration goes on to the victims of its own preemption, and may grant them anew, is the model's inference
(notes/assumptions/18.md). -/
def Obligations.StandbyFeeds : Prop :=
  ∀ (s : State) (p : PortId) (corrected : Bool) (detail : Byte), s.PortsSound → s.cond = .running → s.sup.mode = .standby →
    (s.port p).rx ≠ .gated →
    answers (exec (.notice p corrected 1#8 detail) s) (fun t =>
      let q := { s.port p with mailbox := (t.port p).mailbox, counters := (t.port p).counters }
      let begins := q.state = .idle ∧ q.profile.cls ≠ .deferred ∧ q.standbyFeed = false
      (begins → arbitrated { q with state := .queued, standbyFeed := true } (t.port p) ∧ joined s t p ∧ settled t)
        ∧ (¬ begins → t.port p = q ∧ othersKept s t p ∧ t.fga = s.fga)
        ∧ othersArbitrated s t p ∧ t = { s with ports := t.ports, fga := t.fga, hlk := t.hlk })
    ∧ answers (exec (.notice p corrected 2#8 detail) s) (fun t =>
      let q := { s.port p with mailbox := (t.port p).mailbox, counters := (t.port p).counters, standbyFeed := false }
      let ends := (s.port p).standbyFeed = true ∧ q.hold = false ∧ (q.state = .queued ∨ q.state = .fed)
      (ends → t.port p = (if q.state = .fed then ungranted .idle q else { q with state := .idle }) ∧ unfed t p
            ∧ (q.state = .fed → settled t) ∧ (q.state = .queued → othersKept s t p))
        ∧ (¬ ends → t.port p = q ∧ othersKept s t p ∧ t.fga = s.fga)
        ∧ othersArbitrated s t p ∧ t = { s with ports := t.ports, fga := t.fga, hlk := t.hlk })

/-- R64, R78 to R80, R90, R144: the transmitter. An idle one begins its next sending, wake pattern first, then FEED_STATE, then
CELL_TEST_ORDER, unless its receiver is taking a message, and the receiver is gated; at an end the next one begins at once or the
receiver hunts. The end of a wake pattern starts the check-in timer of a WAKING port, the end of an order with a duration the report
timer of a test in ORDERING, and no other end starts anything. -/
def Obligations.TransmitterSends : Prop :=
  ∀ (s : State) (p : PortId), s.cond = .running →
    let q := s.port p
    let next : Option Transmitter :=
      if q.tx.wakeSlot then some { q.tx with wakeSlot := false, sending := some .wakePattern }
      else if q.tx.feedSlot.isSome then some { q.tx with feedSlot := none, sending := q.tx.feedSlot.map Sending.feedState }
      else if q.tx.orderSlot.isSome then some { q.tx with orderSlot := none, sending := q.tx.orderSlot.map Sending.cellOrder }
      else none
    let ended : Port :=
      match next with
      | some x => { q with tx := x }
      | none => { q with tx := { q.tx with sending := none }, rx := .hunt }
    (∀ x, q.tx.sending = none → q.rx.taking = false → next = some x →
      exec (.transmitBegin p) s = .next (s.setPort p { q with tx := x, rx := .gated }))
    ∧ (q.tx.sending ≠ none ∨ q.rx.taking = true → exec (.transmitBegin p) s = .next s)
    ∧ (q.tx.sending = some .wakePattern →
      exec (.wakePatternEnd p) s =
        .next (s.setPort p { ended with checkin := if q.state = .waking then some 20 else q.checkin }))
    ∧ (∀ b, q.tx.sending = some (.feedState b) → exec (.feedStateEnd p) s = .next (s.setPort p ended))
    ∧ ∀ d, q.tx.sending = some (.cellOrder d) →
      exec (.cellTestOrderEnd p) s =
        .next (s.setPort p
          { ended with cell :=
              if d ≠ 0 ∧ q.cell.phase = .ordering then
                { q.cell with phase := .loading, report := some (q.cell.duration.getD 0 + 10) }
              else q.cell })

/-! ### Waking and check-ins -/

/-- R85, R90, R91: a wake entry that falls due is removed and acts by the port state: an IDLE port is woken, an awake, waiting or locked one
is set again by its interval, a port under test by 5 s, and a WAKING one not at all. R92, R158: the check-in timer of a WAKING port
runs out: the port is IDLE and its terminal UNKNOWN, one more miss is counted, MISSED_CHECKIN is raised, in OUTAGE its next entry is
set by its interval, and at exactly the third miss a line test is asked for. That a WAKE_DUE before the due time leaves the state as it
is is the model's inference (notes/assumptions/19.md), and that no CALL_END is raised where the terminal state was CALL is its choice
(notes/assumptions/26.md). -/
def Obligations.WakesAndMisses : Prop :=
  (∀ (s : State) (p : PortId) (due : Nat), s.PortsSound → s.cond = .running → s.sup.mode = .outage → s.wakeOf p = some due →
     (due ≤ s.sup.outageTime →
       answers (exec (.wakeDue p) s) fun t =>
         ((s.port p).state = .idle →
           t.port p = { s.port p with
               state := .waking
               tx := { (s.port p).tx with
                 wakeSlot := (s.port p).tx.wakeSlot || decide ((s.port p).tx.sending ≠ some .wakePattern) } }
             ∧ t.wakeOf p = none)
         ∧ ((s.port p).state ≠ .idle → t.port p = s.port p)
         ∧ ((s.port p).state = .waking → t.wakeOf p = none)
         ∧ ((s.port p).state = .awake ∨ (s.port p).state = .queued ∨ (s.port p).state = .fed ∨ (s.port p).state = .retry
             ∨ (s.port p).state = .locked → rescheduled s t p)
         ∧ ((s.port p).state = .lineTest ∨ (s.port p).state = .cellTest → t.wakeOf p = some (later s.sup.outageTime 5))
         ∧ othersKept s t p ∧ (∀ q : PortId, q ≠ p → t.wakeOf q = s.wakeOf q)
         ∧ t = { s with ports := t.ports, wakes := t.wakes })
     ∧ (s.sup.outageTime < due → exec (.wakeDue p) s = .next s))
    ∧ (∀ (s : State) (p : PortId), s.PortsSound → s.cond = .running → (s.port p).checkin.isSome →
      answers (exec (.checkinTimerExpiry p) s) fun t =>
        t.port p = { s.port p with
            state := .idle, term := .unknown, checkin := none
            missed := if (s.port p).missed < 255 then (s.port p).missed + 1 else (s.port p).missed }
          ∧ othersKept s t p ∧ t.hlk = raisedPort s.hlk .missedCheckin p
          ∧ (s.sup.mode = .outage → rescheduled s t p) ∧ (s.sup.mode ≠ .outage → t.wakes = s.wakes)
          ∧ (∀ q : PortId, q ≠ p → t.wakeOf q = s.wakeOf q)
          ∧ ((s.port p).missed = 2 → ¬ testWaits s p →
              t.pdi = { s.pdi with queue := s.pdi.queue ++ [⟨p, .missedCheckin, s.sup.partTime⟩] })
          ∧ ((s.port p).missed ≠ 2 ∨ testWaits s p → t.pdi = s.pdi)
          ∧ t = { s with ports := t.ports, wakes := t.wakes, pdi := t.pdi, hlk := t.hlk })

/-- R98: awake silence. The terminal is UNKNOWN, with CALL_END if it was in a call; the burst timer is stopped and the standby-feed flag
cleared, the host hold kept; a FED, QUEUED or AWAKE port goes to IDLE and out of the queue and the grants; any other state is kept.
R109: the burst timer runs out. A port that a call, a hold or a standby feed holds only loses its timer; otherwise a FED port is
released and a QUEUED one withdrawn, to AWAKE or IDLE, and any other state is kept. That an arbitration goes on to the victims of
its own preemption, and may grant them anew, is the model's inference (notes/assumptions/18.md). -/
def Obligations.SilenceAndBurstEnd : Prop :=
  (∀ (s : State) (p : PortId), s.PortsSound → s.cond = .running → (s.port p).silence.isSome →
     answers (exec (.awakeSilenceExpiry p) s) fun t =>
       let q := s.port p
       let ends := q.state = .fed ∨ q.state = .queued ∨ q.state = .awake
       t.port p = { q with
           state := if ends then .idle else q.state
           term := .unknown, silence := none, burst := none, standbyFeed := false
           switch := opened q.switch
           tx := { q.tx with feedSlot := if q.state = .fed then some false else q.tx.feedSlot } }
         ∧ othersArbitrated s t p ∧ unfed t p ∧ (q.state = .fed → settled t) ∧ (q.state ≠ .fed → othersKept s t p)
         ∧ t.hlk = (if q.term = .call then raisedPort s.hlk .callEnd p else s.hlk)
         ∧ t = { s with ports := t.ports, fga := t.fga, hlk := t.hlk })
    ∧ (∀ (s : State) (p : PortId), s.PortsSound → s.cond = .running → (s.port p).burst.isSome →
      let q := s.port p
      let kept := q.term = .call ∨ q.hold = true ∨ q.standbyFeed = true
      (kept → exec (.burstTimerExpiry p) s = .next (s.setPort p { q with burst := none }))
      ∧ (¬ kept →
        answers (exec (.burstTimerExpiry p) s) fun t =>
          t.port p = { q with
              state := if q.state = .fed ∨ q.state = .queued then restState q else q.state
              burst := none, switch := opened q.switch
              tx := { q.tx with feedSlot := if q.state = .fed then some false else q.tx.feedSlot } }
            ∧ unfed t p ∧ othersArbitrated s t p ∧ (q.state = .fed → settled t) ∧ (q.state ≠ .fed → othersKept s t p)
            ∧ t = { s with ports := t.ports, fga := t.fga }))

/-- R72, R73, R93, R46, R68, R94, R95: what every valid check-in does first: counted; its identity stored, or judged a change of terminal with
TERMINAL_CHANGED and the cell record gone; its cell voltage stored and in OUTAGE the cell-low mark judged; no miss left; the silence
timer restarted or stopped; a WAKING port's check-in timer stopped; in OUTAGE the wake entry set by the interval. A call that begins
raises CALL_START for the port and one that ends raises CALL_END, and no other event is raised. That the check-in leaves the receiver
as it stands is the model's choice (notes/assumptions/15.md). That an arbitration goes on to the victims of its own preemption, and
may grant them anew, is the model's inference (notes/assumptions/18.md). -/
def Obligations.CheckinFirstPart : Prop :=
  ∀ (s : State) (p : PortId) (corrected : Bool) (identity : BitVec 48) (cond : Condition) (volts : Nat), s.PortsSound →
    s.cond = .running → (s.port p).rx ≠ .gated →
    answers (exec (.checkin p corrected identity cond volts) s) fun t =>
      let q := s.port p
      let changed := q.identity.isSome ∧ q.identity ≠ some identity
      (t.port p).identity = some identity ∧ (t.port p).cellVolts = some volts ∧ (t.port p).missed = 0
        ∧ (t.port p).cellRecord = (if changed then none else q.cellRecord)
        ∧ (t.port p).cellLow =
            (if s.sup.mode = .outage then decide (volts < s.cac.params.cellWeakVolt) else q.cellLow)
        ∧ (t.port p).checkin = none
        ∧ (t.port p).silence = (if cond = .sleepNext then none else some 180)
        ∧ (t.port p).term =
            (match cond with
             | .sleepNext => .sleep
             | .awake => .awake
             | .call => .call)
        ∧ (t.port p).counters = { q.counters with
            good := up q.counters.good, corrected := if corrected then up q.counters.corrected else q.counters.corrected }
        ∧ t.port p = { t.port p with
            profile := q.profile, mailbox := q.mailbox, lockReason := q.lockReason, lineRecord := q.lineRecord
            lineAttempt := q.lineAttempt, periodicDue := q.periodicDue, tripKind := q.tripKind, tripsTotal := q.tripsTotal, rx := q.rx
            tx := { q.tx with feedSlot := (t.port p).tx.feedSlot, orderSlot := (t.port p).tx.orderSlot } }
        ∧ (s.sup.mode = .outage → rescheduled s t p) ∧ (s.sup.mode ≠ .outage → t.wakes = s.wakes)
        ∧ (∀ r : PortId, r ≠ p → t.wakeOf r = s.wakeOf r)
        ∧ othersArbitrated s t p
        ∧ t.hlk =
            (let h := if changed then raisedPort s.hlk .terminalChanged p else s.hlk
             if cond = .call ∧ q.term ≠ .call then raisedPort h .callStart p
             else if cond ≠ .call ∧ q.term = .call then raisedPort h .callEnd p
             else h)
        ∧ t = { s with ports := t.ports, wakes := t.wakes, fga := t.fga, hlk := t.hlk }

/-- R94 to R96, R105, R107, R108, R114, R149: what a check-in does to the port by its condition and its state: the feed request it makes
from IDLE, WAKING or AWAKE, queued with a new arrival or granted at once if it is allowed, and AWAKE if not; the states it keeps, in
which nothing else at the port moves; a call that begins or ends while the port is QUEUED or FED, and keeps the arrival of its entry,
or the number, the limit and the time of its grant, but that in RESERVE the end of a LIFELINE port's call without a host hold ends its
feed; the test that a call aborts; and what a terminal about to sleep leaves. That an arbitration goes on to the victims of its own
preemption, and may grant them anew, is the model's inference (notes/assumptions/18.md). -/
def Obligations.CheckinActsByState : Prop :=
  ∀ (s : State) (p : PortId) (corrected : Bool) (identity : BitVec 48) (cond : Condition) (volts : Nat), s.PortsSound →
    s.cond = .running → (s.port p).rx ≠ .gated →
    answers (exec (.checkin p corrected identity cond volts) s) fun t =>
      let q := s.port p
      let low := s.sup.mode = .outage ∧ volts < s.cac.params.cellWeakVolt
      let inCall := cond = .call
      let cause :=
        q.profile.cls ≠ .deferred
          ∧ (if s.sup.mode = .outage then inCall ∨ q.hold = true ∨ q.profile.feedOnWake = true ∨ low
            else q.standbyFeed = true ∨ q.hold = true)
      let allowed := cause ∧ s.eff ≠ .exhausted
        ∧ (s.eff = .reserve → q.profile.cls = .lifeline ∧ (inCall ∨ q.hold = true))
      let rests := q.state = .idle ∨ q.state = .waking
      let asks :=
        (cond = .awake ∧ (rests ∨ (q.state = .awake ∧ low ∧ q.cellLow = false)))
          ∨ (inCall ∧ (rests ∨ q.state = .awake ∨ q.state = .cellTest))
      let fed := q.state = .queued ∨ q.state = .fed
      let heard := { t.port p with
        state := q.state, switch := q.switch, tx := { q.tx with orderSlot := (t.port p).tx.orderSlot } }
      let refused := s.eff = .reserve ∧ cond = .awake ∧ q.hold = false
      let turns := (cond = .awake ∧ q.term = .call) ∨ (cond = .call ∧ q.term ≠ .call)
      (cond = .sleepNext → (t.port p).hold = false ∧ (t.port p).standbyFeed = false ∧ (t.port p).burst = none ∧ unfed t p
        ∧ t.port p =
            (if q.state = .fed then ungranted .idle heard
            else if q.state = .cellTest ∨ q.state = .retry ∨ q.state = .locked then heard
            else { heard with state := .idle })
        ∧ (q.state = .fed → settled t) ∧ (q.state ≠ .fed → othersKept s t p))
      ∧ (cond ≠ .sleepNext → (t.port p).hold = q.hold ∧ (t.port p).standbyFeed = q.standbyFeed)
      ∧ (asks → allowed → arbitrated { heard with state := .queued } (t.port p) ∧ joined s t p ∧ settled t)
      ∧ (fed → cond ≠ .sleepNext → placeKept s t p)
      ∧ (asks → ¬ allowed → t.port p = { heard with state := .awake } ∧ othersKept s t p ∧ t.fga = s.fga)
      ∧ (cond ≠ .sleepNext → ¬ asks → ¬ fed → t.port p = heard ∧ othersKept s t p ∧ t.fga = s.fga)
      ∧ (fed → cond ≠ .sleepNext → ¬ turns → t.port p = heard ∧ othersKept s t p ∧ t.fga = s.fga)
      ∧ (fed → cond ≠ .sleepNext → refused →
          t.port p = (if q.state = .fed then ungranted .awake heard else { heard with state := .awake }) ∧ unfed t p
            ∧ (q.state = .fed → settled t))
      ∧ (q.state = .queued → cond ≠ .sleepNext → ¬ refused →
          arbitrated heard (t.port p) ∧ (turns → q.profile.cls = .lifeline ∨ q.hold = false → settled t))
      ∧ (q.state = .fed → cond ≠ .sleepNext → ¬ refused → t.port p = heard ∧ othersKept s t p)
      ∧ (cond = .awake → (t.port p).burst =
          if rests ∨ q.term = .call ∨ (q.state = .awake ∧ low ∧ q.cellLow = false) then some (burstNow s p) else q.burst)
      ∧ (cond = .call → (t.port p).burst = q.burst)
      ∧ (cond = .call → q.state = .cellTest →
          (t.port p).cell = ⟨later s.sup.partTime 3600, .noTest, none, none⟩ ∧ (t.port p).tx.orderSlot = some 0)
      ∧ (cond ≠ .call ∨ q.state ≠ .cellTest →
          (t.port p).cell = q.cell ∧ (t.port p).tx.orderSlot = q.tx.orderSlot)

/-! ### The host's WAKE, FEED and RELEASE -/

/-- R90, R99, R100, R165: WAKE in its order of judgement, and by port state: an IDLE port is woken; one already awake or waiting is
answered OK unchanged; a line test borrowed from IDLE is aborted by an urgent WAKE alone; a port under another test, in RETRY or
locked is refused. -/
def Obligations.HostWakes : Prop :=
  ∀ (s : State) (p : PortId) (urgency : Nat), s.PortsSound → takes s →
      (1 < urgency → exec (.wake p.val urgency) s = .next (replied s 0x20 .badValue []))
      ∧ (urgency ≤ 1 → s.sup.mode = .standby → exec (.wake p.val urgency) s = .next (replied s 0x20 .refusedMode []))
      ∧ (urgency ≤ 1 → s.sup.mode = .outage → s.hlk.supervision = .supervised →
        let q := s.port p
        let refused (r : Result) : Prop := exec (.wake p.val urgency) s = .next (replied s 0x20 r [])
        let stageOk := s.eff ≠ .exhausted ∨ urgency = 1
        (q.state = .off → refused .notProvisioned)
        ∧ (q.state ≠ .off → ¬ stageOk → refused .refusedStage)
        ∧ (stageOk → q.state = .idle →
          answers (exec (.wake p.val urgency) s) fun t =>
            t.port p = { q with
                state := .waking
                tx := { q.tx with wakeSlot := q.tx.wakeSlot || decide (q.tx.sending ≠ some .wakePattern) } }
              ∧ othersKept s t p ∧ t.wakes = s.wakes.filter (fun e => e.port != p) ∧ answered s t 0x20 .ok [2#8]
              ∧ t = { s with
                  ports := t.ports, wakes := t.wakes
                  hlk := { s.hlk with replies := t.hlk.replies, priorFault := false } })
        ∧ (stageOk → q.state = .waking ∨ q.state = .awake ∨ q.state = .queued ∨ q.state = .fed →
          exec (.wake p.val urgency) s = .next (replied s 0x20 .ok (stateByte s p)))
        ∧ (stageOk → q.state = .cellTest ∨ q.state = .retry ∨ q.state = .locked → refused .refusedState)
        ∧ (stageOk → q.state = .lineTest → urgency = 0 ∨ s.locked p = true → refused .refusedState)
        ∧ (stageOk → q.state = .lineTest → urgency = 1 → s.locked p = false →
          answers (exec (.wake p.val urgency) s) fun t =>
            t.port p = { q with
                state := .waking, rx := .hunt, tx := ⟨true, none, none, none⟩, lineAttempt := some .aborted }
              ∧ othersKept s t p ∧ t.wakes = s.wakes.filter (fun e => e.port != p)
              ∧ t.pdi = { s.pdi with instrument := none } ∧ answered s t 0x20 .ok [2#8]
              ∧ t = { s with
                  ports := t.ports, wakes := t.wakes, pdi := t.pdi
                  hlk := { raisedPort s.hlk .lineTestDone p with replies := t.hlk.replies, priorFault := false } }))

/-- R105, R114, R119: FEED in its order of judgement; accepted, it sets the host hold, wakes an IDLE port as a WAKE does, with a wake pattern asked for and
its wake entry gone, queues an AWAKE one with a new arrival, re-levels one that is QUEUED or FED, which keeps its arrival or its grant, and leaves a WAKING one to its check-in. R120: RELEASE in its order; accepted, it clears the hold and the standby-feed
flag and takes a FED or QUEUED port out to AWAKE or IDLE; any other state is kept. That an arbitration goes on to the victims of its
own preemption, and may grant them anew, is the model's inference (notes/assumptions/18.md). -/
def Obligations.HostFeedsAndReleases : Prop :=
  (∀ (s : State) (p : PortId), s.PortsSound → takes s → s.hlk.supervision = .supervised →
     let q := s.port p
     let refused (r : Result) : Prop := exec (.feed p.val) s = .next (replied s 0x21 r [])
     let wrongState := q.profile.cls = .deferred ∨ q.state = .retry ∨ q.state = .locked ∨ q.state = .lineTest
       ∨ q.state = .cellTest
     let wrongStage := s.eff = .exhausted ∨ (s.eff = .reserve ∧ q.profile.cls ≠ .lifeline)
     (q.state = .off → refused .notProvisioned)
     ∧ (q.state ≠ .off → wrongState → refused .refusedState)
     ∧ (q.state ≠ .off → ¬ wrongState → wrongStage → refused .refusedStage)
     ∧ (q.state ≠ .off → ¬ wrongState → ¬ wrongStage →
       answers (exec (.feed p.val) s) fun t =>
         (t.port p).hold = true ∧ (t.port p).term = q.term ∧ (t.port p).burst = q.burst
           ∧ answered s t 0x21 .ok (stateByte t p) ∧ othersArbitrated s t p
           ∧ (q.state = .idle →
               t.port p = { q with
                 state := .waking, hold := true
                 tx := { q.tx with wakeSlot := q.tx.wakeSlot || decide (q.tx.sending ≠ some .wakePattern) } }
               ∧ othersKept s t p ∧ t.wakes = s.wakes.filter (fun e => e.port != p) ∧ t.fga = s.fga)
           ∧ (q.state ≠ .idle → t.wakes = s.wakes)
           ∧ (q.state = .waking → t.port p = { q with hold := true } ∧ othersKept s t p ∧ t.fga = s.fga)
           ∧ (q.state = .awake ∨ q.state = .queued → arbitrated { q with state := .queued, hold := true } (t.port p))
           ∧ (q.state = .awake → joined s t p ∧ settled t)
           ∧ (q.state = .queued ∨ q.state = .fed → placeKept s t p)
           ∧ (q.state = .queued → q.profile.cls = .standard → q.hold = false → settled t)
           ∧ (q.state = .fed → t.port p = { q with hold := true } ∧ othersKept s t p)
           ∧ (q.profile.cls = .standard → ∀ e ∈ t.fga.queue, e.port = p → e.level = .p3)
           ∧ (q.profile.cls = .standard → ∀ g ∈ t.fga.grants, g.port = p → g.level = .p3)
           ∧ t = { s with
               ports := t.ports, wakes := t.wakes, fga := t.fga
               hlk := { s.hlk with replies := t.hlk.replies, priorFault := false } }))
    ∧ (∀ (s : State) (p : PortId), s.PortsSound → takes s → s.hlk.supervision = .supervised →
        let q := s.port p
        let refused (r : Result) : Prop := exec (.release p.val) s = .next (replied s 0x22 r [])
        let lifelineCall := q.profile.cls = .lifeline ∧ q.term = .call
        (q.state = .off → refused .notProvisioned)
        ∧ (q.state ≠ .off → lifelineCall → refused .refusedState)
        ∧ (q.state ≠ .off → ¬ lifelineCall →
          answers (exec (.release p.val) s) fun t =>
            t.port p = { q with
                state := if q.state = .fed ∨ q.state = .queued then restState q else q.state
                hold := false, standbyFeed := false, switch := opened q.switch
                tx := { q.tx with feedSlot := if q.state = .fed then some false else q.tx.feedSlot } }
              ∧ unfed t p ∧ othersArbitrated s t p ∧ (q.state = .fed → settled t) ∧ (q.state ≠ .fed → othersKept s t p)
              ∧ answered s t 0x22 .ok (stateByte t p)
              ∧ t = { s with
                  ports := t.ports, fga := t.fga, hlk := { s.hlk with replies := t.hlk.replies, priorFault := false } }))

/-! ### Grants, trips and switches -/

/-- R106, R110 to R113: an arbitration. When it has run, the first entry that is eligible does not fit, so no entry that fits waits at the
head. Grants are made in queue order: no entry is granted past an eligible one before it, and of two that are granted the earlier one has
the older grant. What is granted was in the queue and was eligible, or is a victim of this arbitration that the scan reached again and
that found room, granted anew: that the scan goes on to its victims, and that no eligible entry that fits is left at the head after a
preemption too, is the model's inference (notes/assumptions/18.md). No P1 or P2 grant is taken away, and one at P3 to P5 only where an
eligible P1 entry stood in the queue. R112: those taken for P1 entries are taken at P5, then P4, then P3, the youngest of a level first,
their ports queued again in that order, and no more of them than needed: with the last one still there, the P1 entry it was taken for,
behind those before it, would not have fitted. Every port keeps everything that a grant or a release does not touch. Whatever command other than a
sample of the account ends the feed of a FED port, or makes a port that was neither QUEUED nor FED one of them, an arbitration has run;
for the sample see SampleGovernsStage. R113, R126, R127: whatever command makes a port FED has its switch closed, with 200 ms of blanking,
no overload timer and 60 s of clean feed, and FEED_STATE FED asked for; and whatever command ends its feed has the switch open with the
three timers idle, and FEED_STATE UNFED asked for unless the port is OFF. -/
def Obligations.ArbitrationGrantsInOrder : Prop :=
  (∀ s : State, s.PortsShaped → s.QueueSound → s.GrantsSound →
    let t := s.arbitrate
    settled t
      ∧ (∀ e ∈ s.fga.queue, ∀ f ∈ s.fga.queue, QueueEntry.before e f = true → eligibleNow s e →
          f.port ∈ t.fga.grants.map (·.port) → e.port ∈ t.fga.grants.map (·.port))
      ∧ (∀ e ∈ s.fga.queue, ∀ f ∈ s.fga.queue, QueueEntry.before e f = true →
          ∀ g ∈ t.fga.grants, ∀ h ∈ t.fga.grants, g.port = e.port → h.port = f.port →
            g.number < h.number ∨ h.number = 4294967295)
      ∧ (∀ g ∈ t.fga.grants, g ∈ s.fga.grants
          ∨ ((∃ e ∈ s.fga.queue, e.port = g.port ∧ eligibleNow s e)
              ∧ g.limit = (s.port g.port).profile.feedLimit ∧ g.time = s.sup.partTime ∧ newNumber s g.number)
          ∨ (g.port ∈ s.fga.grants.map (·.port) ∧ ∃ e ∈ s.fga.queue, e.level = .p1))
      ∧ (∀ g ∈ s.fga.grants, g.level = .p1 ∨ g.level = .p2 → g ∈ t.fga.grants)
      ∧ (∀ g ∈ s.fga.grants, g ∉ t.fga.grants → ∃ e ∈ s.fga.queue, e.level = .p1 ∧ eligibleNow s e)
      ∧ (s.fga.counter < 4294967295 → takenInOrder s t
          ∧ ∀ v, takenLast s t v → ∃ e ∈ s.fga.queue, e.level = .p1
            ∧ (let ahead := s.fga.queue.filter fun d => QueueEntry.before d e
               ¬ ((keptGrants s t).length + 1 + ahead.length < s.cac.params.slotCeiling
                   ∧ (s.port e.port).profile.feedLimit + ((keptGrants s t).map (·.limit)).sum + v.limit
                       + (ahead.map fun d => (s.port d.port).profile.feedLimit).sum ≤ s.cac.params.bankCeiling)))
      ∧ t.QueueSound ∧ t.GrantsSound
      ∧ (∀ p : PortId, arbitrated (s.port p) (t.port p))
      ∧ t = { s with ports := t.ports, fga := t.fga })
    ∧ (∀ (c : Instr) (s t : State), s.PortsSound → (∀ volts amps valid, c ≠ .accountSample volts amps valid) →
      exec c s = .next t →
      ((∃ p : PortId, (s.port p).state = .fed ∧ (t.port p).state ≠ .fed)
        ∨ ∃ p : PortId, (s.port p).state ≠ .queued ∧ (s.port p).state ≠ .fed
            ∧ ((t.port p).state = .queued ∨ (t.port p).state = .fed)) →
      settled t)
    ∧ ∀ (c : Instr) (s t : State) (p : PortId), s.PortsSound → exec c s = .next t →
      ((s.port p).state ≠ .fed → (t.port p).state = .fed →
          (t.port p).switch = closedAnew (t.port p).switch ∧ (t.port p).tx.feedSlot = some true)
        ∧ ((s.port p).state = .fed → (t.port p).state ≠ .fed →
          (t.port p).switch = opened (t.port p).switch ∧ ((t.port p).state = .off ∨ (t.port p).tx.feedSlot = some false))

/-- R130, R131, R132, R133, R47, R158: a trip, short or overload. It is recorded and counted, TRIP is raised, the grant is gone and UNFED
is asked for; up to the third in a row the port waits in RETRY for 5, 20 or 80 s; at the fourth it is LOCKED with REPEATED_TRIP and
LOCKOUT, a line test is asked for, where the port has no entry that waits, and a checkpoint. What is not named is kept. That an
arbitration goes on to the victims of its own preemption, and may grant them anew, is the model's inference
(notes/assumptions/18.md). -/
def Obligations.SwitchTrips : Prop :=
  ∀ (s : State) (p : PortId) (c : Instr) (kind : TripKind), s.PortsSound → s.cond = .running → (s.port p).state = .fed →
    ((c = .shortDetected p ∧ kind = .short)
      ∨ (c = .overloadTimerExpiry p ∧ kind = .overload ∧ (s.port p).switch.overload.isSome)) →
    answers (exec c s) fun t =>
      let q := s.port p
      let n := q.switch.trips
      let fourth := 3 ≤ n
      t.port p = { q with
          state := if fourth then .locked else .retry
          tripKind := some kind, tripsTotal := up q.tripsTotal
          lockReason := if fourth then some .repeatedTrip else q.lockReason
          tx := { q.tx with feedSlot := some false }
          switch := { opened q.switch with
            trips := if n < 4 then n + 1 else n
            backoff := if n = 0 then some 5 else if n = 1 then some 20 else if n = 2 then some 80 else none } }
        ∧ unfed t p ∧ othersArbitrated s t p ∧ settled t
        ∧ t.hlk = (if fourth then raisedPort (raisedPort s.hlk .trip p) .lockout p else raisedPort s.hlk .trip p)
        ∧ (fourth → checkpointAsked s.nvs t false ∧ testWaits t p)
        ∧ (fourth → ¬ testWaits s p → t.pdi = { s.pdi with queue := s.pdi.queue ++ [⟨p, .repeatedTrip, s.sup.partTime⟩] })
        ∧ (fourth → testWaits s p → t.pdi = s.pdi)
        ∧ (¬ fourth → t.pdi = s.pdi ∧ t.nvs = s.nvs)
        ∧ t = { s with ports := t.ports, fga := t.fga, pdi := t.pdi, nvs := t.nvs, hlk := t.hlk }

/-- R126, R128, R131, R138: what watches a closed switch. Every sample replaces the oldest of ten, an open switch reading 0 and none
above 3,000 mA, and the average is their sum over ten; a rise above the limit starts the overload timer unless the blanking runs, a fall
stops it; the end of the blanking starts it if the current stands above the limit; 60 s of clean feed forget the trips. An open
switch does not trip. That a short or an overload told of an open switch changes nothing is the model's inference
(notes/assumptions/3.md). -/
def Obligations.SwitchesWatched : Prop :=
  ∀ s : State, s.cond = .running →
    (s.sup.mode ≠ .start → ∀ currents : Vector Nat 16,
      answers (exec (.feedCurrentSample currents) s) fun t =>
        (∀ p : PortId,
          let sample := if (s.port p).switch.closed then min 3000 currents[p.val] else 0
          let last := (sample :: (s.port p).switch.samples).take 10
          t.port p = { s.port p with switch := { (s.port p).switch with samples := last, average := last.sum / 10 } })
          ∧ t = { s with ports := t.ports })
    ∧ ∀ p : PortId,
      let q := s.port p
      let timed (w : Switch) : Host.Outcome State Fault Refusal := .next (s.setPort p { q with switch := w })
      (q.switch.closed = true → q.switch.blanking = none →
        exec (.overloadRise p) s = timed { q.switch with overload := some 500 })
      ∧ (∀ n, q.switch.blanking = some n → exec (.overloadRise p) s = .next s)
      ∧ exec (.overloadFall p) s = timed { q.switch with overload := none }
      ∧ (∀ (n : Nat) (above : Bool), q.switch.closed = true → q.switch.blanking = some n →
        exec (.inrushBlankingExpiry p above) s =
          timed { q.switch with blanking := none, overload := if above then some 500 else q.switch.overload })
      ∧ (∀ n, q.switch.clean = some n →
        exec (.cleanFeedExpiry p) s = timed { q.switch with clean := none, trips := 0 })
      ∧ (q.switch.closed = false →
        exec (.shortDetected p) s = .next s ∧ exec (.overloadTimerExpiry p) s = .next s)

/-- R136: the backoff of a port in RETRY runs out. A port that wants feed and whose level the effective stage admits is queued with a new
entry and a new arrival, and granted at once where the arbitration reaches it and it fits; any other goes to AWAKE or IDLE. The backoff is idle and
the trip count kept. That an arbitration goes on to the victims of its own preemption, and may grant them anew, is the model's
inference (notes/assumptions/18.md). -/
def Obligations.RetryJudged : Prop :=
  ∀ (s : State) (p : PortId), s.PortsSound → s.cond = .running → (s.port p).state = .retry →
    answers (exec (.retryExpiry p) s) fun t =>
      let q := s.port p
      let wants :=
        q.profile.cls ≠ .deferred
          ∧ (if s.sup.mode = .outage then q.term = .call ∨ q.hold = true ∨ q.burst.isSome
            else q.standbyFeed = true ∨ q.hold = true)
      let admitted := s.eff ≠ .exhausted
        ∧ (s.eff = .reserve → q.profile.cls = .lifeline ∧ (q.term = .call ∨ q.hold = true))
      (wants → admitted →
          arbitrated { q with state := .queued, switch := { q.switch with backoff := none } } (t.port p) ∧ joined s t p
            ∧ settled t)
        ∧ (¬ (wants ∧ admitted) →
            t.port p = { q with state := restState q, switch := { q.switch with backoff := none } }
              ∧ othersKept s t p ∧ t.fga = s.fga)
        ∧ othersArbitrated s t p ∧ t = { s with ports := t.ports, fga := t.fga }

/-! ### Cell tests and line tests -/

/-- R141, R142, R143: a cell test falls due, or is asked for. In STANDBY an IDLE port starts it with 30 s, or the stored duration, and any
other port's due time moves by 600 s; in OUTAGE nothing is done and the request is refused. R48, R145 to R148: a report, or the end of
the report timer, ends the test of a port in CELL_TEST: the verdict and the resistance by their formula and the thresholds of the
moment, a whole new record, the port IDLE, CELL_TEST_DONE, and the next due time one interval on; a cancel is asked for where the order
had not been sent, and where no report came. A report at any other port is only counted. That a report leaves the receiver as it stands is the model's choice
(notes/assumptions/15.md). -/
def Obligations.CellTests : Prop :=
  (∀ (s : State) (p : PortId), s.PortsSound →
     let q := s.port p
     let started (d : Nat) : State :=
       s.setPort p { q with
         state := .cellTest, cell := { q.cell with phase := .ordering, duration := some d }
         tx := { q.tx with orderSlot := some d } }
     (s.cond = .running → s.sup.mode = .standby → q.cell.due ≤ s.sup.partTime →
       (q.state = .idle → exec (.cellTestDue p) s = .next (started 30))
         ∧ (q.state ≠ .idle →
           exec (.cellTestDue p) s =
             .next (s.setPort p { q with cell := { q.cell with due := later s.sup.partTime 600 } })))
     ∧ (s.sup.mode = .outage → exec (.cellTestDue p) s = .next s)
     ∧ (takes s → ∀ duration : Nat,
       let d := if duration = 0 then 30 else brought 10 120 duration
       (s.sup.mode = .outage → exec (.cellTest p.val duration) s = .next (replied s 0x31 .refusedMode []))
       ∧ (s.sup.mode = .standby → q.state = .off →
         exec (.cellTest p.val duration) s = .next (replied s 0x31 .notProvisioned []))
       ∧ (s.sup.mode = .standby → q.state ≠ .off → q.state ≠ .idle →
         exec (.cellTest p.val duration) s = .next (replied s 0x31 .refusedState []))
       ∧ (s.sup.mode = .standby → q.state = .idle →
         exec (.cellTest p.val duration) s =
           .next (replied (started d) 0x31 (if duration = 0 ∨ duration = d then .ok else .okClamped)
             [BitVec.ofNat 8 d, 6#8]))))
    ∧ (∀ (s : State) (p : PortId), s.PortsSound → s.cond = .running →
      let q := s.port p
      let next := later s.sup.partTime (86400 * q.profile.cellInterval)
      (∀ (corrected : Bool) (vOpen vLoaded iLoad : Nat), q.rx ≠ .gated →
        let counted := { q.counters with
          good := up q.counters.good, corrected := if corrected then up q.counters.corrected else q.counters.corrected }
        (q.state = .cellTest →
          exec (.cellReport p corrected vOpen vLoaded iLoad) s =
            .next { s with
              ports := (s.setPort p { q with
                counters := counted, state := .idle, cell := ⟨next, .noTest, none, none⟩
                cellRecord := some
                  ⟨(judged s.cac.params vOpen vLoaded iLoad).1, some ⟨vOpen, vLoaded, iLoad⟩,
                    (judged s.cac.params vOpen vLoaded iLoad).2, s.sup.partTime⟩
                tx := { q.tx with orderSlot := if q.cell.phase = .ordering then some 0 else q.tx.orderSlot } }).ports
              hlk := raisedPort s.hlk .cellTestDone p })
        ∧ (q.state ≠ .cellTest →
          exec (.cellReport p corrected vOpen vLoaded iLoad) s =
            .next (s.setPort p { q with counters := counted })))
      ∧ (q.cell.report.isSome →
        exec (.reportTimerExpiry p) s =
          .next { s with
            ports := (s.setPort p { q with
              state := .idle, cell := ⟨next, .noTest, none, none⟩
              cellRecord := some ⟨.noResponse, none, none, s.sup.partTime⟩
              tx := { q.tx with orderSlot := some 0 } }).ports
            hlk := raisedPort s.hlk .cellTestDone p }))

/-- R156, R157, R158: a line test is asked for by the host and by the periodic schedule. A port that has no entry gets one at the end of the
queue, with its source and the part time; one that has keeps it. The host is refused for an OFF, FED, QUEUED or RETRY port; the
periodic due time moves one interval on whether or not an entry joined, in STANDBY and for an enabled port alone. That the reply tells a
new entry by 1 and an entry already there by 0 is the model's choice (notes/assumptions/11.md). -/
def Obligations.LineTestsAsked : Prop :=
  ∀ (s : State) (p : PortId), s.PortsSound →
    let q := s.port p
    let asked (source : TestSource) : Pdi :=
      if testWaits s p then s.pdi else { s.pdi with queue := s.pdi.queue ++ [⟨p, source, s.sup.partTime⟩] }
    (takes s →
      (q.state = .off → exec (.lineTest p.val) s = .next (replied s 0x30 .notProvisioned []))
      ∧ (q.state = .fed ∨ q.state = .queued ∨ q.state = .retry →
        exec (.lineTest p.val) s = .next (replied s 0x30 .refusedState []))
      ∧ (q.state ≠ .off → q.state ≠ .fed → q.state ≠ .queued → q.state ≠ .retry →
        (testWaits s p → exec (.lineTest p.val) s = .next (replied s 0x30 .ok (stateByte s p ++ [0#8])))
          ∧ (¬ testWaits s p →
            exec (.lineTest p.val) s = .next (replied { s with pdi := asked .host } 0x30 .ok (stateByte s p ++ [1#8])))))
    ∧ (s.cond = .running → s.sup.mode = .standby → q.profile.enabled = true → q.periodicDue ≤ s.sup.partTime →
      answers (exec (.periodicTestDue p) s) fun t =>
        t.pdi = asked .periodic
          ∧ t.port p = { q with periodicDue := later s.sup.partTime (s.cac.params.lineInterval * 3600) }
          ∧ othersKept s t p ∧ t = { s with ports := t.ports, pdi := t.pdi })
    ∧ (s.sup.mode = .outage ∨ q.profile.enabled = false → exec (.periodicTestDue p) s = .next s)

/-- R159, R160, R64, R81: the idle instrument takes the oldest entry whose port is IDLE or LOCKED, outside EXHAUSTED: the entry leaves the
queue, the port is in LINE_TEST with its receiver gated and its transmitter empty, and the test begins with no reading taken. Each
phase end then samples both conductors and begins the next phase. The instrument drives no pair but that of the port under test, and
that one with the currents of the phase: none in CONNECTING, sink A and B in T1, source A and sink B in T2, sink A and source B in T3. -/
def Obligations.LineTestTaken : Prop :=
  (∀ (s : State) (before after : List TestEntry) (e : TestEntry), s.PortsSound → s.cond = .running →
    s.pdi.instrument = none → s.eff ≠ .exhausted → s.pdi.queue = before ++ e :: after →
    (∀ x ∈ before, (s.port x.port).state ≠ .idle ∧ (s.port x.port).state ≠ .locked) →
    (s.port e.port).state = .idle ∨ (s.port e.port).state = .locked →
    exec .lineTestTake s =
      .next { s with
        ports := (s.setPort e.port { s.port e.port with state := .lineTest, rx := .gated, tx := ⟨false, none, none, none⟩ }).ports
        pdi :=
          { instrument := some
              ⟨e.port, if (s.port e.port).state = .idle then .fromIdle else .fromLocked, .connecting, none, none, none⟩
            queue := before ++ after } })
    ∧ (∀ s : State, s.pdi.instrument.isSome ∨ s.eff = .exhausted → exec .lineTestTake s = .next s)
    ∧ (∀ (s : State) (p : PortId),
        s.testCurrents p =
          match s.pdi.instrument.filter (fun x => x.port == p) with
          | none => none
          | some x =>
            match x.phase with
            | .connecting => none
            | .t1 => some (.sink, .sink)
            | .t2 => some (.source, .sink)
            | .t3 => some (.sink, .source))
    ∧ ∀ (s : State) (x : LineTest) (a b : Bool), s.cond = .running → s.pdi.instrument = some x → x.phase ≠ .t3 →
      exec (.lineTestPhaseEnd a b) s =
        .next { s with pdi := { s.pdi with
          instrument := some ({ x with
            phase := if x.phase = .connecting then .t1 else if x.phase = .t1 then .t2 else .t3
            t1 := if x.phase = .t1 then some ⟨a, b⟩ else x.t1
            t2 := if x.phase = .t2 then some ⟨a, b⟩ else x.t2 } : LineTest) } }

/-- R161, R162, R163, R49, R47: the end of phase T3. The pair is classified by its six readings; the instrument is idle; the record, the
attempt and the periodic due time are set and LINE_TEST_DONE is raised; and the port leaves LINE_TEST by the verdict and the state it
was borrowed from, listening again with an empty transmitter. -/
def Obligations.LineTestCompletes : Prop :=
  ∀ (s : State) (x : LineTest) (r1 r2 : Reading) (a b : Bool), s.PortsSound → s.cond = .running → s.pdi.instrument = some x →
    x.phase = .t3 → x.t1 = some r1 → x.t2 = some r2 →
    answers (exec (.lineTestComplete a b) s) fun t =>
      let q := s.port x.port
      let v := pairVerdict r1.aHigh r1.bHigh r2.aHigh r2.bHigh a b
      let fromIdle := x.borrowed = .fromIdle
      let fault := v ≠ .normal ∧ v ≠ .indeterminate
      t.port x.port = { q with
          state := if v = .normal ∨ (v = .indeterminate ∧ fromIdle) then .idle else .locked
          rx := .hunt, tx := ⟨false, none, none, none⟩
          lineRecord := some ⟨v, s.sup.partTime⟩, lineAttempt := some (.verdict v)
          periodicDue := later s.sup.partTime (s.cac.params.lineInterval * 3600)
          lockReason := if v = .normal then none else if fault then some .lineFault else q.lockReason
          switch := { q.switch with trips := if v = .normal then 0 else q.switch.trips } }
        ∧ t.pdi = { s.pdi with instrument := none }
        ∧ t.hlk =
            (if fault ∧ fromIdle then raisedPort (raisedPort s.hlk .lineTestDone x.port) .lockout x.port
            else raisedPort s.hlk .lineTestDone x.port)
        ∧ ((v = .normal ∧ ¬ fromIdle) ∨ (fault ∧ fromIdle) → checkpointAsked s.nvs t false)
        ∧ (¬ ((v = .normal ∧ ¬ fromIdle) ∨ (fault ∧ fromIdle)) → t.nvs = s.nvs)
        ∧ othersKept s t x.port ∧ t = { s with ports := t.ports, pdi := t.pdi, nvs := t.nvs, hlk := t.hlk }

/-- R166: CLEAR_LOCKOUT in its order of judgement: a LOCKED port goes to IDLE with no lock reason and trip count 0, and a checkpoint is
asked for; an OFF port and a port in any other state are refused. -/
def Obligations.LockoutCleared : Prop :=
  ∀ (s : State) (p : PortId), takes s →
      ((s.port p).state = .off → exec (.clearLockout p.val) s = .next (replied s 0x12 .notProvisioned []))
      ∧ ((s.port p).state ≠ .off → (s.port p).state ≠ .locked →
        exec (.clearLockout p.val) s = .next (replied s 0x12 .refusedState []))
      ∧ ((s.port p).state = .locked →
        answers (exec (.clearLockout p.val) s) fun t =>
          t.port p = { s.port p with
              state := .idle, lockReason := none, switch := { (s.port p).switch with trips := 0 } }
            ∧ othersKept s t p ∧ checkpointAsked s.nvs t false ∧ answered s t 0x12 .ok [1#8]
            ∧ t = { s with
                ports := t.ports, nvs := t.nvs, hlk := { s.hlk with replies := t.hlk.replies, priorFault := false } })
end

