-- ==== Sys2Proof/Laws/Numbers.lean ====
section
/-! SUPPORT. The numbers of the commands: clamps, saturation, and the sets of event kinds and ports. -/

namespace Sys2Proof.Machine

/-! ### Clamps and saturation -/

theorem clampNat_le {lo hi : Nat} (h : lo ≤ hi) (n : Nat) : clampNat lo hi n ≤ hi := by
  unfold clampNat; omega

theorem le_clampNat (lo hi n : Nat) : lo ≤ clampNat lo hi n := by
  unfold clampNat; omega

theorem clampNat_of_mem {lo hi n : Nat} (h : lo ≤ n) (g : n ≤ hi) : clampNat lo hi n = n := by
  unfold clampNat; omega

theorem clampInt_le {lo hi : Int} (h : lo ≤ hi) (n : Int) : clampInt lo hi n ≤ hi := by
  unfold clampInt; omega

theorem le_clampInt (lo hi n : Int) : lo ≤ clampInt lo hi n := by
  unfold clampInt; omega

/-- Everything a saturating sum can be: the sum, or the top. -/
theorem satAdd_cases (a b : Nat) : (a + b ≤ maxU32 ∧ satAdd a b = a + b) ∨ (maxU32 < a + b ∧ satAdd a b = maxU32) := by
  unfold satAdd; omega

theorem satAdd_le (a b : Nat) : satAdd a b ≤ maxU32 := by
  unfold satAdd; omega

/-- Everything a saturating count can be: one more, or the same. -/
theorem satInc_cases (top n : Nat) : (n < top ∧ satInc top n = n + 1) ∨ (top ≤ n ∧ satInc top n = n) := by
  unfold satInc; split <;> omega

theorem satInc_le {top n : Nat} (h : n ≤ top) : satInc top n ≤ top := by
  unfold satInc; split <;> omega

/-- A stored parameter set stands in its ranges whatever was given (R21). -/
theorem storedParams_ceilings (g : AccountParams) :
    1 ≤ (storedParams g).slotCeiling ∧ (storedParams g).slotCeiling ≤ 8
      ∧ 500 ≤ (storedParams g).bankCeiling ∧ (storedParams g).bankCeiling ≤ 8000 := by
  simp only [storedParams, consistencyClamp, rangeClamp, clampNat]
  omega

/-- The port a request names (R42). -/
theorem portOf_val (p : PortId) : portOf p.val = some p := by
  simp [portOf, p.isLt]

theorem portOf_none {n : Nat} (h : 15 < n) : portOf n = none := by
  have : ¬ n < 16 := by omega
  simp [portOf, this]

/-! ### Kind sets and port masks -/

/-- The flag of a kind after a kind has been raised. -/
theorem kindSet_raise (f : BitVec 17) {m n : Nat} (hm : 1 ≤ m) (hn : 1 ≤ n) (top : n ≤ 17) :
    kindSet (f ||| kindBit m) n = (kindSet f n || decide (m = n)) := by
  simp only [kindSet, kindBit, BitVec.getLsbD_or, BitVec.getLsbD_twoPow]
  congr 1
  by_cases h : m = n
  · subst h
    have : m - 1 < 17 := by omega
    simp [this]
  · have : m - 1 ≠ n - 1 := by omega
    simp [this, h]

/-- The ports of a mask after one has joined it. -/
theorem mask_join (m : PortMask) (p r : PortId) : (m ||| portBit p).getLsbD r.val = (m.getLsbD r.val || decide (p = r)) := by
  simp only [portBit, BitVec.getLsbD_or, BitVec.getLsbD_twoPow]
  congr 1
  by_cases h : p = r
  · subst h; simp [p.isLt]
  · have : p.val ≠ r.val := fun e => h (Fin.ext e)
    simp [h, this]

@[simp] theorem maskOf_setMask_self (m : PortMasks) (k : PortEvent) (v : PortMask) : maskOf (setMask m k v) k = v := by
  cases k <;> rfl

theorem maskOf_setMask_ne (m : PortMasks) {j k : PortEvent} (v : PortMask) (h : j ≠ k) :
    maskOf (setMask m k v) j = maskOf m j := by
  cases j <;> cases k <;> first | rfl | exact absurd rfl h

/-- A priority number names one kind (R186). -/
theorem PortEvent.priority_inj {j k : PortEvent} (h : j.priority = k.priority) : j = k := by
  cases j <;> cases k <;> simp_all [PortEvent.priority]

theorem PlainEvent.priority_inj {j k : PlainEvent} (h : j.priority = k.priority) : j = k := by
  cases j <;> cases k <;> simp_all [PlainEvent.priority]

theorem priority_ne (j : PlainEvent) (k : PortEvent) : j.priority ≠ k.priority := by
  cases j <;> cases k <;> simp [PlainEvent.priority, PortEvent.priority]

theorem PortEvent.priority_range (k : PortEvent) : 1 ≤ k.priority ∧ k.priority ≤ 17 := by
  cases k <;> simp [PortEvent.priority]

theorem PlainEvent.priority_range (k : PlainEvent) : 1 ≤ k.priority ∧ k.priority ≤ 17 := by
  cases k <;> simp [PlainEvent.priority]

/-- Every port stands in the list of ports once. -/
theorem mem_allPorts (p : PortId) : p ∈ allPorts := by
  revert p; decide

end Sys2Proof.Machine
end

