-- ==== Sys2Proof/Laws/State.lean ====
section
/-! SUPPORT. The small lemmas of the state's updates: for each update and each field what the field is afterwards, so that no proof
unfolds an update. First those true by unfolding alone, then those of the updates that branch, then the reads of one port. -/

namespace Sys2Proof.Machine

variable (s : State) (p r : PortId)


/-! One port's record -/

@[simp] theorem State.setPort_cond (q : Port) : (s.setPort p q).cond = s.cond := rfl
@[simp] theorem State.setPort_pins (q : Port) : (s.setPort p q).pins = s.pins := rfl
@[simp] theorem State.setPort_straps (q : Port) : (s.setPort p q).straps = s.straps := rfl
@[simp] theorem State.setPort_sup (q : Port) : (s.setPort p q).sup = s.sup := rfl
@[simp] theorem State.setPort_cac (q : Port) : (s.setPort p q).cac = s.cac := rfl
@[simp] theorem State.setPort_ports (q : Port) : (s.setPort p q).ports = s.ports.set p.val q := rfl
@[simp] theorem State.setPort_wakes (q : Port) : (s.setPort p q).wakes = s.wakes := rfl
@[simp] theorem State.setPort_fga (q : Port) : (s.setPort p q).fga = s.fga := rfl
@[simp] theorem State.setPort_pdi (q : Port) : (s.setPort p q).pdi = s.pdi := rfl
@[simp] theorem State.setPort_nvs (q : Port) : (s.setPort p q).nvs = s.nvs := rfl
@[simp] theorem State.setPort_hlk (q : Port) : (s.setPort p q).hlk = s.hlk := rfl
@[simp] theorem State.setPort_freeUses (q : Port) : (s.setPort p q).freeUses = s.freeUses := rfl
@[simp] theorem State.setPort_pending (q : Port) : (s.setPort p q).pending = s.pending := rfl

/-! One port's record changed -/

@[simp] theorem State.modPort_cond (f : Port → Port) : (s.modPort p f).cond = s.cond := rfl
@[simp] theorem State.modPort_pins (f : Port → Port) : (s.modPort p f).pins = s.pins := rfl
@[simp] theorem State.modPort_straps (f : Port → Port) : (s.modPort p f).straps = s.straps := rfl
@[simp] theorem State.modPort_sup (f : Port → Port) : (s.modPort p f).sup = s.sup := rfl
@[simp] theorem State.modPort_cac (f : Port → Port) : (s.modPort p f).cac = s.cac := rfl
@[simp] theorem State.modPort_ports (f : Port → Port) : (s.modPort p f).ports = s.ports.set p.val (f (s.port p)) := rfl
@[simp] theorem State.modPort_wakes (f : Port → Port) : (s.modPort p f).wakes = s.wakes := rfl
@[simp] theorem State.modPort_fga (f : Port → Port) : (s.modPort p f).fga = s.fga := rfl
@[simp] theorem State.modPort_pdi (f : Port → Port) : (s.modPort p f).pdi = s.pdi := rfl
@[simp] theorem State.modPort_nvs (f : Port → Port) : (s.modPort p f).nvs = s.nvs := rfl
@[simp] theorem State.modPort_hlk (f : Port → Port) : (s.modPort p f).hlk = s.hlk := rfl
@[simp] theorem State.modPort_freeUses (f : Port → Port) : (s.modPort p f).freeUses = s.freeUses := rfl
@[simp] theorem State.modPort_pending (f : Port → Port) : (s.modPort p f).pending = s.pending := rfl

/-! Every port's record -/

@[simp] theorem State.mapPorts_cond (f : PortId → Port → Port) : (s.mapPorts f).cond = s.cond := by simp only [State.mapPorts]
@[simp] theorem State.mapPorts_pins (f : PortId → Port → Port) : (s.mapPorts f).pins = s.pins := by simp only [State.mapPorts]
@[simp] theorem State.mapPorts_straps (f : PortId → Port → Port) : (s.mapPorts f).straps =
    s.straps := by simp only [State.mapPorts]
@[simp] theorem State.mapPorts_sup (f : PortId → Port → Port) : (s.mapPorts f).sup = s.sup := by simp only [State.mapPorts]
@[simp] theorem State.mapPorts_cac (f : PortId → Port → Port) : (s.mapPorts f).cac = s.cac := by simp only [State.mapPorts]
@[simp] theorem State.mapPorts_ports (f : PortId → Port → Port) : (s.mapPorts f).ports =
    Vector.ofFn fun p => f p (s.port p) := by simp only [State.mapPorts]
@[simp] theorem State.mapPorts_wakes (f : PortId → Port → Port) : (s.mapPorts f).wakes = s.wakes := by simp only [State.mapPorts]
@[simp] theorem State.mapPorts_fga (f : PortId → Port → Port) : (s.mapPorts f).fga = s.fga := by simp only [State.mapPorts]
@[simp] theorem State.mapPorts_pdi (f : PortId → Port → Port) : (s.mapPorts f).pdi = s.pdi := by simp only [State.mapPorts]
@[simp] theorem State.mapPorts_nvs (f : PortId → Port → Port) : (s.mapPorts f).nvs = s.nvs := by simp only [State.mapPorts]
@[simp] theorem State.mapPorts_hlk (f : PortId → Port → Port) : (s.mapPorts f).hlk = s.hlk := by simp only [State.mapPorts]
@[simp] theorem State.mapPorts_freeUses (f : PortId → Port → Port) : (s.mapPorts f).freeUses =
    s.freeUses := by simp only [State.mapPorts]
@[simp] theorem State.mapPorts_pending (f : PortId → Port → Port) : (s.mapPorts f).pending =
    s.pending := by simp only [State.mapPorts]

/-! A port's state -/

@[simp] theorem State.enter_cond (st : PortState) : (s.enter p st).cond = s.cond := rfl
@[simp] theorem State.enter_pins (st : PortState) : (s.enter p st).pins = s.pins := rfl
@[simp] theorem State.enter_straps (st : PortState) : (s.enter p st).straps = s.straps := rfl
@[simp] theorem State.enter_sup (st : PortState) : (s.enter p st).sup = s.sup := rfl
@[simp] theorem State.enter_cac (st : PortState) : (s.enter p st).cac = s.cac := rfl
@[simp] theorem State.enter_ports (st : PortState) : (s.enter p st).ports = s.ports.set p.val ((s.port p).enter st) := rfl
@[simp] theorem State.enter_wakes (st : PortState) : (s.enter p st).wakes = s.wakes := rfl
@[simp] theorem State.enter_fga (st : PortState) : (s.enter p st).fga = s.fga := rfl
@[simp] theorem State.enter_pdi (st : PortState) : (s.enter p st).pdi = s.pdi := rfl
@[simp] theorem State.enter_nvs (st : PortState) : (s.enter p st).nvs = s.nvs := rfl
@[simp] theorem State.enter_hlk (st : PortState) : (s.enter p st).hlk = s.hlk := rfl
@[simp] theorem State.enter_freeUses (st : PortState) : (s.enter p st).freeUses = s.freeUses := rfl
@[simp] theorem State.enter_pending (st : PortState) : (s.enter p st).pending = s.pending := rfl

/-! A sending asked for -/

@[simp] theorem State.ask_cond (x : Sending) : (s.ask p x).cond = s.cond := rfl
@[simp] theorem State.ask_pins (x : Sending) : (s.ask p x).pins = s.pins := rfl
@[simp] theorem State.ask_straps (x : Sending) : (s.ask p x).straps = s.straps := rfl
@[simp] theorem State.ask_sup (x : Sending) : (s.ask p x).sup = s.sup := rfl
@[simp] theorem State.ask_cac (x : Sending) : (s.ask p x).cac = s.cac := rfl
@[simp] theorem State.ask_ports (x : Sending) : (s.ask p x).ports = s.ports.set p.val ((s.port p).ask x) := rfl
@[simp] theorem State.ask_wakes (x : Sending) : (s.ask p x).wakes = s.wakes := rfl
@[simp] theorem State.ask_fga (x : Sending) : (s.ask p x).fga = s.fga := rfl
@[simp] theorem State.ask_pdi (x : Sending) : (s.ask p x).pdi = s.pdi := rfl
@[simp] theorem State.ask_nvs (x : Sending) : (s.ask p x).nvs = s.nvs := rfl
@[simp] theorem State.ask_hlk (x : Sending) : (s.ask p x).hlk = s.hlk := rfl
@[simp] theorem State.ask_freeUses (x : Sending) : (s.ask p x).freeUses = s.freeUses := rfl
@[simp] theorem State.ask_pending (x : Sending) : (s.ask p x).pending = s.pending := rfl

/-! An event raised -/

@[simp] theorem State.raise_cond (k : PlainEvent) : (s.raise k).cond = s.cond := rfl
@[simp] theorem State.raise_pins (k : PlainEvent) : (s.raise k).pins = s.pins := rfl
@[simp] theorem State.raise_straps (k : PlainEvent) : (s.raise k).straps = s.straps := rfl
@[simp] theorem State.raise_sup (k : PlainEvent) : (s.raise k).sup = s.sup := rfl
@[simp] theorem State.raise_cac (k : PlainEvent) : (s.raise k).cac = s.cac := rfl
@[simp] theorem State.raise_ports (k : PlainEvent) : (s.raise k).ports = s.ports := rfl
@[simp] theorem State.raise_wakes (k : PlainEvent) : (s.raise k).wakes = s.wakes := rfl
@[simp] theorem State.raise_fga (k : PlainEvent) : (s.raise k).fga = s.fga := rfl
@[simp] theorem State.raise_pdi (k : PlainEvent) : (s.raise k).pdi = s.pdi := rfl
@[simp] theorem State.raise_nvs (k : PlainEvent) : (s.raise k).nvs = s.nvs := rfl
@[simp] theorem State.raise_hlk (k : PlainEvent) : (s.raise k).hlk =
    { s.hlk with flags := s.hlk.flags ||| kindBit k.priority } := rfl
@[simp] theorem State.raise_freeUses (k : PlainEvent) : (s.raise k).freeUses = s.freeUses := rfl
@[simp] theorem State.raise_pending (k : PlainEvent) : (s.raise k).pending = s.pending := rfl

/-! A port event raised -/

@[simp] theorem State.raisePort_cond (k : PortEvent) : (s.raisePort k p).cond = s.cond := rfl
@[simp] theorem State.raisePort_pins (k : PortEvent) : (s.raisePort k p).pins = s.pins := rfl
@[simp] theorem State.raisePort_straps (k : PortEvent) : (s.raisePort k p).straps = s.straps := rfl
@[simp] theorem State.raisePort_sup (k : PortEvent) : (s.raisePort k p).sup = s.sup := rfl
@[simp] theorem State.raisePort_cac (k : PortEvent) : (s.raisePort k p).cac = s.cac := rfl
@[simp] theorem State.raisePort_ports (k : PortEvent) : (s.raisePort k p).ports = s.ports := rfl
@[simp] theorem State.raisePort_wakes (k : PortEvent) : (s.raisePort k p).wakes = s.wakes := rfl
@[simp] theorem State.raisePort_fga (k : PortEvent) : (s.raisePort k p).fga = s.fga := rfl
@[simp] theorem State.raisePort_pdi (k : PortEvent) : (s.raisePort k p).pdi = s.pdi := rfl
@[simp] theorem State.raisePort_nvs (k : PortEvent) : (s.raisePort k p).nvs = s.nvs := rfl
@[simp] theorem State.raisePort_hlk (k : PortEvent) : (s.raisePort k p).hlk =
    { s.hlk with
      flags := s.hlk.flags ||| kindBit k.priority
      masks := setMask s.hlk.masks k (maskOf s.hlk.masks k ||| portBit p) } := rfl
@[simp] theorem State.raisePort_freeUses (k : PortEvent) : (s.raisePort k p).freeUses = s.freeUses := rfl
@[simp] theorem State.raisePort_pending (k : PortEvent) : (s.raisePort k p).pending = s.pending := rfl

/-! A checkpoint begun -/

@[simp] theorem State.beginCheckpoint_cond : (s.beginCheckpoint).cond = s.cond := rfl
@[simp] theorem State.beginCheckpoint_pins : (s.beginCheckpoint).pins = s.pins := rfl
@[simp] theorem State.beginCheckpoint_straps : (s.beginCheckpoint).straps = s.straps := rfl
@[simp] theorem State.beginCheckpoint_sup : (s.beginCheckpoint).sup = s.sup := rfl
@[simp] theorem State.beginCheckpoint_cac : (s.beginCheckpoint).cac = s.cac := rfl
@[simp] theorem State.beginCheckpoint_ports : (s.beginCheckpoint).ports = s.ports := rfl
@[simp] theorem State.beginCheckpoint_wakes : (s.beginCheckpoint).wakes = s.wakes := rfl
@[simp] theorem State.beginCheckpoint_fga : (s.beginCheckpoint).fga = s.fga := rfl
@[simp] theorem State.beginCheckpoint_pdi : (s.beginCheckpoint).pdi = s.pdi := rfl
@[simp] theorem State.beginCheckpoint_nvs : (s.beginCheckpoint).nvs =
    { s.nvs with
      activity := .writingCheckpoint s.checkpointNow
      ring := s.nvs.ringForWrite.setIfInBounds ((s.nvs.lastSlot + 1) % 32) none
      lastSlot := (s.nvs.lastSlot + 1) % 32
      pendingCp := false
      ringUnread := false } := rfl
@[simp] theorem State.beginCheckpoint_hlk : (s.beginCheckpoint).hlk = s.hlk := rfl
@[simp] theorem State.beginCheckpoint_freeUses : (s.beginCheckpoint).freeUses = s.freeUses := rfl
@[simp] theorem State.beginCheckpoint_pending : (s.beginCheckpoint).pending = s.pending := rfl

/-! A save begun -/

@[simp] theorem State.beginSave_cond : (s.beginSave).cond = s.cond := rfl
@[simp] theorem State.beginSave_pins : (s.beginSave).pins = s.pins := rfl
@[simp] theorem State.beginSave_straps : (s.beginSave).straps = s.straps := rfl
@[simp] theorem State.beginSave_sup : (s.beginSave).sup = s.sup := rfl
@[simp] theorem State.beginSave_cac : (s.beginSave).cac = s.cac := rfl
@[simp] theorem State.beginSave_ports : (s.beginSave).ports = s.ports := rfl
@[simp] theorem State.beginSave_wakes : (s.beginSave).wakes = s.wakes := rfl
@[simp] theorem State.beginSave_fga : (s.beginSave).fga = s.fga := rfl
@[simp] theorem State.beginSave_pdi : (s.beginSave).pdi = s.pdi := rfl
@[simp] theorem State.beginSave_nvs : (s.beginSave).nvs =
    { s.nvs with activity := .saving s.areaNow, area := none, waitingSave := false } := rfl
@[simp] theorem State.beginSave_hlk : (s.beginSave).hlk = s.hlk := rfl
@[simp] theorem State.beginSave_freeUses : (s.beginSave).freeUses = s.freeUses := rfl
@[simp] theorem State.beginSave_pending : (s.beginSave).pending = s.pending := rfl

/-! The checkpoint timer started -/

@[simp] theorem State.startCheckpointTimer_cond : (s.startCheckpointTimer).cond = s.cond := rfl
@[simp] theorem State.startCheckpointTimer_pins : (s.startCheckpointTimer).pins = s.pins := rfl
@[simp] theorem State.startCheckpointTimer_straps : (s.startCheckpointTimer).straps = s.straps := rfl
@[simp] theorem State.startCheckpointTimer_sup : (s.startCheckpointTimer).sup = s.sup := rfl
@[simp] theorem State.startCheckpointTimer_cac : (s.startCheckpointTimer).cac = s.cac := rfl
@[simp] theorem State.startCheckpointTimer_ports : (s.startCheckpointTimer).ports = s.ports := rfl
@[simp] theorem State.startCheckpointTimer_wakes : (s.startCheckpointTimer).wakes = s.wakes := rfl
@[simp] theorem State.startCheckpointTimer_fga : (s.startCheckpointTimer).fga = s.fga := rfl
@[simp] theorem State.startCheckpointTimer_pdi : (s.startCheckpointTimer).pdi = s.pdi := rfl
@[simp] theorem State.startCheckpointTimer_nvs : (s.startCheckpointTimer).nvs =
    { s.nvs with cpTimer := some (checkpointPeriod s.sup.mode) } := rfl
@[simp] theorem State.startCheckpointTimer_hlk : (s.startCheckpointTimer).hlk = s.hlk := rfl
@[simp] theorem State.startCheckpointTimer_freeUses : (s.startCheckpointTimer).freeUses = s.freeUses := rfl
@[simp] theorem State.startCheckpointTimer_pending : (s.startCheckpointTimer).pending = s.pending := rfl

/-! A wake entry removed -/

@[simp] theorem State.dropWake_cond : (s.dropWake p).cond = s.cond := rfl
@[simp] theorem State.dropWake_pins : (s.dropWake p).pins = s.pins := rfl
@[simp] theorem State.dropWake_straps : (s.dropWake p).straps = s.straps := rfl
@[simp] theorem State.dropWake_sup : (s.dropWake p).sup = s.sup := rfl
@[simp] theorem State.dropWake_cac : (s.dropWake p).cac = s.cac := rfl
@[simp] theorem State.dropWake_ports : (s.dropWake p).ports = s.ports := rfl
@[simp] theorem State.dropWake_wakes : (s.dropWake p).wakes = Machine.dropWake p s.wakes := rfl
@[simp] theorem State.dropWake_fga : (s.dropWake p).fga = s.fga := rfl
@[simp] theorem State.dropWake_pdi : (s.dropWake p).pdi = s.pdi := rfl
@[simp] theorem State.dropWake_nvs : (s.dropWake p).nvs = s.nvs := rfl
@[simp] theorem State.dropWake_hlk : (s.dropWake p).hlk = s.hlk := rfl
@[simp] theorem State.dropWake_freeUses : (s.dropWake p).freeUses = s.freeUses := rfl
@[simp] theorem State.dropWake_pending : (s.dropWake p).pending = s.pending := rfl

/-! A wake entry set -/

@[simp] theorem State.putWake_cond (due : Nat) : (s.putWake p due).cond = s.cond := rfl
@[simp] theorem State.putWake_pins (due : Nat) : (s.putWake p due).pins = s.pins := rfl
@[simp] theorem State.putWake_straps (due : Nat) : (s.putWake p due).straps = s.straps := rfl
@[simp] theorem State.putWake_sup (due : Nat) : (s.putWake p due).sup = s.sup := rfl
@[simp] theorem State.putWake_cac (due : Nat) : (s.putWake p due).cac = s.cac := rfl
@[simp] theorem State.putWake_ports (due : Nat) : (s.putWake p due).ports = s.ports := rfl
@[simp] theorem State.putWake_wakes (due : Nat) : (s.putWake p due).wakes = Machine.putWake p due s.wakes := rfl
@[simp] theorem State.putWake_fga (due : Nat) : (s.putWake p due).fga = s.fga := rfl
@[simp] theorem State.putWake_pdi (due : Nat) : (s.putWake p due).pdi = s.pdi := rfl
@[simp] theorem State.putWake_nvs (due : Nat) : (s.putWake p due).nvs = s.nvs := rfl
@[simp] theorem State.putWake_hlk (due : Nat) : (s.putWake p due).hlk = s.hlk := rfl
@[simp] theorem State.putWake_freeUses (due : Nat) : (s.putWake p due).freeUses = s.freeUses := rfl
@[simp] theorem State.putWake_pending (due : Nat) : (s.putWake p due).pending = s.pending := rfl

/-! A frame discarded -/

@[simp] theorem State.discardFrame_cond : (s.discardFrame).cond = s.cond := rfl
@[simp] theorem State.discardFrame_pins : (s.discardFrame).pins = s.pins := rfl
@[simp] theorem State.discardFrame_straps : (s.discardFrame).straps = s.straps := rfl
@[simp] theorem State.discardFrame_sup : (s.discardFrame).sup = s.sup := rfl
@[simp] theorem State.discardFrame_cac : (s.discardFrame).cac = s.cac := rfl
@[simp] theorem State.discardFrame_ports : (s.discardFrame).ports = s.ports := rfl
@[simp] theorem State.discardFrame_wakes : (s.discardFrame).wakes = s.wakes := rfl
@[simp] theorem State.discardFrame_fga : (s.discardFrame).fga = s.fga := rfl
@[simp] theorem State.discardFrame_pdi : (s.discardFrame).pdi = s.pdi := rfl
@[simp] theorem State.discardFrame_nvs : (s.discardFrame).nvs = s.nvs := rfl
@[simp] theorem State.discardFrame_hlk : (s.discardFrame).hlk =
    { s.hlk with
      flags := s.hlk.flags ||| kindBit PlainEvent.linkFault.priority
      priorFault := true } := rfl
@[simp] theorem State.discardFrame_freeUses : (s.discardFrame).freeUses = s.freeUses := rfl
@[simp] theorem State.discardFrame_pending : (s.discardFrame).pending = s.pending := rfl

/-! A reply built -/

@[simp] theorem State.answer_cond (code : Nat) (x : Result) (data : List Byte) : (s.answer code x data).cond = s.cond := rfl
@[simp] theorem State.answer_pins (code : Nat) (x : Result) (data : List Byte) : (s.answer code x data).pins = s.pins := rfl
@[simp] theorem State.answer_straps (code : Nat) (x : Result) (data : List Byte) : (s.answer code x data).straps = s.straps := rfl
@[simp] theorem State.answer_sup (code : Nat) (x : Result) (data : List Byte) : (s.answer code x data).sup = s.sup := rfl
@[simp] theorem State.answer_cac (code : Nat) (x : Result) (data : List Byte) : (s.answer code x data).cac = s.cac := rfl
@[simp] theorem State.answer_ports (code : Nat) (x : Result) (data : List Byte) : (s.answer code x data).ports = s.ports := rfl
@[simp] theorem State.answer_wakes (code : Nat) (x : Result) (data : List Byte) : (s.answer code x data).wakes = s.wakes := rfl
@[simp] theorem State.answer_fga (code : Nat) (x : Result) (data : List Byte) : (s.answer code x data).fga = s.fga := rfl
@[simp] theorem State.answer_pdi (code : Nat) (x : Result) (data : List Byte) : (s.answer code x data).pdi = s.pdi := rfl
@[simp] theorem State.answer_nvs (code : Nat) (x : Result) (data : List Byte) : (s.answer code x data).nvs = s.nvs := rfl
@[simp] theorem State.answer_hlk (code : Nat) (x : Result) (data : List Byte) : (s.answer code x data).hlk =
    { s.hlk with
      priorFault := false, replies := s.hlk.replies ++ [{ code := replyCode code, status := s.linkStatus, result := x, data := if x.carriesData then data else [] }] } := rfl
@[simp] theorem State.answer_freeUses (code : Nat) (x : Result) (data : List Byte) : (s.answer code x data).freeUses =
    s.freeUses := rfl
@[simp] theorem State.answer_pending (code : Nat) (x : Result) (data : List Byte) : (s.answer code x data).pending =
    s.pending := rfl

/-! A grant made -/

@[simp] theorem State.grant_cond (e : QueueEntry) : (s.grant e).cond = s.cond := rfl
@[simp] theorem State.grant_pins (e : QueueEntry) : (s.grant e).pins = s.pins := rfl
@[simp] theorem State.grant_straps (e : QueueEntry) : (s.grant e).straps = s.straps := rfl
@[simp] theorem State.grant_sup (e : QueueEntry) : (s.grant e).sup = s.sup := rfl
@[simp] theorem State.grant_cac (e : QueueEntry) : (s.grant e).cac = s.cac := rfl
@[simp] theorem State.grant_wakes (e : QueueEntry) : (s.grant e).wakes = s.wakes := rfl
@[simp] theorem State.grant_fga (e : QueueEntry) : (s.grant e).fga =
    ({ s.fga with
      counter := s.fga.nextNumber }.dropEntry e.port).putGrant { port := e.port, level := ((s.port e.port).level).getD e.level, limit := (s.port e.port).profile.feedLimit, time := s.sup.partTime, number := s.fga.nextNumber } := rfl
@[simp] theorem State.grant_pdi (e : QueueEntry) : (s.grant e).pdi = s.pdi := rfl
@[simp] theorem State.grant_nvs (e : QueueEntry) : (s.grant e).nvs = s.nvs := rfl
@[simp] theorem State.grant_hlk (e : QueueEntry) : (s.grant e).hlk = s.hlk := rfl
@[simp] theorem State.grant_freeUses (e : QueueEntry) : (s.grant e).freeUses = s.freeUses := rfl
@[simp] theorem State.grant_pending (e : QueueEntry) : (s.grant e).pending = s.pending := rfl

/-! A grant ended -/

@[simp] theorem State.endGrant_cond : (s.endGrant p).cond = s.cond := rfl
@[simp] theorem State.endGrant_pins : (s.endGrant p).pins = s.pins := rfl
@[simp] theorem State.endGrant_straps : (s.endGrant p).straps = s.straps := rfl
@[simp] theorem State.endGrant_sup : (s.endGrant p).sup = s.sup := rfl
@[simp] theorem State.endGrant_cac : (s.endGrant p).cac = s.cac := rfl
@[simp] theorem State.endGrant_wakes : (s.endGrant p).wakes = s.wakes := rfl
@[simp] theorem State.endGrant_fga : (s.endGrant p).fga = s.fga.dropGrant p := rfl
@[simp] theorem State.endGrant_pdi : (s.endGrant p).pdi = s.pdi := rfl
@[simp] theorem State.endGrant_nvs : (s.endGrant p).nvs = s.nvs := rfl
@[simp] theorem State.endGrant_hlk : (s.endGrant p).hlk = s.hlk := rfl
@[simp] theorem State.endGrant_freeUses : (s.endGrant p).freeUses = s.freeUses := rfl
@[simp] theorem State.endGrant_pending : (s.endGrant p).pending = s.pending := rfl

/-! A grant released to a state -/

@[simp] theorem State.releaseTo_cond (st : PortState) : (s.releaseTo p st).cond = s.cond := rfl
@[simp] theorem State.releaseTo_pins (st : PortState) : (s.releaseTo p st).pins = s.pins := rfl
@[simp] theorem State.releaseTo_straps (st : PortState) : (s.releaseTo p st).straps = s.straps := rfl
@[simp] theorem State.releaseTo_sup (st : PortState) : (s.releaseTo p st).sup = s.sup := rfl
@[simp] theorem State.releaseTo_cac (st : PortState) : (s.releaseTo p st).cac = s.cac := rfl
@[simp] theorem State.releaseTo_wakes (st : PortState) : (s.releaseTo p st).wakes = s.wakes := rfl
@[simp] theorem State.releaseTo_fga (st : PortState) : (s.releaseTo p st).fga = s.fga.dropGrant p := rfl
@[simp] theorem State.releaseTo_pdi (st : PortState) : (s.releaseTo p st).pdi = s.pdi := rfl
@[simp] theorem State.releaseTo_nvs (st : PortState) : (s.releaseTo p st).nvs = s.nvs := rfl
@[simp] theorem State.releaseTo_hlk (st : PortState) : (s.releaseTo p st).hlk = s.hlk := rfl
@[simp] theorem State.releaseTo_freeUses (st : PortState) : (s.releaseTo p st).freeUses = s.freeUses := rfl
@[simp] theorem State.releaseTo_pending (st : PortState) : (s.releaseTo p st).pending = s.pending := rfl

/-! An entry withdrawn to a state -/

@[simp] theorem State.withdrawTo_cond (st : PortState) : (s.withdrawTo p st).cond = s.cond := rfl
@[simp] theorem State.withdrawTo_pins (st : PortState) : (s.withdrawTo p st).pins = s.pins := rfl
@[simp] theorem State.withdrawTo_straps (st : PortState) : (s.withdrawTo p st).straps = s.straps := rfl
@[simp] theorem State.withdrawTo_sup (st : PortState) : (s.withdrawTo p st).sup = s.sup := rfl
@[simp] theorem State.withdrawTo_cac (st : PortState) : (s.withdrawTo p st).cac = s.cac := rfl
@[simp] theorem State.withdrawTo_ports (st : PortState) : (s.withdrawTo p st).ports =
    s.ports.set p.val ((s.port p).enter st) := rfl
@[simp] theorem State.withdrawTo_wakes (st : PortState) : (s.withdrawTo p st).wakes = s.wakes := rfl
@[simp] theorem State.withdrawTo_fga (st : PortState) : (s.withdrawTo p st).fga = s.fga.dropEntry p := rfl
@[simp] theorem State.withdrawTo_pdi (st : PortState) : (s.withdrawTo p st).pdi = s.pdi := rfl
@[simp] theorem State.withdrawTo_nvs (st : PortState) : (s.withdrawTo p st).nvs = s.nvs := rfl
@[simp] theorem State.withdrawTo_hlk (st : PortState) : (s.withdrawTo p st).hlk = s.hlk := rfl
@[simp] theorem State.withdrawTo_freeUses (st : PortState) : (s.withdrawTo p st).freeUses = s.freeUses := rfl
@[simp] theorem State.withdrawTo_pending (st : PortState) : (s.withdrawTo p st).pending = s.pending := rfl

/-! A burst timer started -/

@[simp] theorem State.startBurst_cond : (s.startBurst p).cond = s.cond := rfl
@[simp] theorem State.startBurst_pins : (s.startBurst p).pins = s.pins := rfl
@[simp] theorem State.startBurst_straps : (s.startBurst p).straps = s.straps := rfl
@[simp] theorem State.startBurst_sup : (s.startBurst p).sup = s.sup := rfl
@[simp] theorem State.startBurst_cac : (s.startBurst p).cac = s.cac := rfl
@[simp] theorem State.startBurst_ports : (s.startBurst p).ports =
    s.ports.set p.val { s.port p with burst := some (s.burstLength p) } := rfl
@[simp] theorem State.startBurst_wakes : (s.startBurst p).wakes = s.wakes := rfl
@[simp] theorem State.startBurst_fga : (s.startBurst p).fga = s.fga := rfl
@[simp] theorem State.startBurst_pdi : (s.startBurst p).pdi = s.pdi := rfl
@[simp] theorem State.startBurst_nvs : (s.startBurst p).nvs = s.nvs := rfl
@[simp] theorem State.startBurst_hlk : (s.startBurst p).hlk = s.hlk := rfl
@[simp] theorem State.startBurst_freeUses : (s.startBurst p).freeUses = s.freeUses := rfl
@[simp] theorem State.startBurst_pending : (s.startBurst p).pending = s.pending := rfl

/-! A port woken -/

@[simp] theorem State.wakePort_cond : (s.wakePort p).cond = s.cond := rfl
@[simp] theorem State.wakePort_pins : (s.wakePort p).pins = s.pins := rfl
@[simp] theorem State.wakePort_straps : (s.wakePort p).straps = s.straps := rfl
@[simp] theorem State.wakePort_sup : (s.wakePort p).sup = s.sup := rfl
@[simp] theorem State.wakePort_cac : (s.wakePort p).cac = s.cac := rfl
@[simp] theorem State.wakePort_wakes : (s.wakePort p).wakes = Machine.dropWake p s.wakes := rfl
@[simp] theorem State.wakePort_fga : (s.wakePort p).fga = s.fga := rfl
@[simp] theorem State.wakePort_pdi : (s.wakePort p).pdi = s.pdi := rfl
@[simp] theorem State.wakePort_nvs : (s.wakePort p).nvs = s.nvs := rfl
@[simp] theorem State.wakePort_hlk : (s.wakePort p).hlk = s.hlk := rfl
@[simp] theorem State.wakePort_freeUses : (s.wakePort p).freeUses = s.freeUses := rfl
@[simp] theorem State.wakePort_pending : (s.wakePort p).pending = s.pending := rfl

/-! A line test aborted -/

@[simp] theorem State.abortTest_cond : (s.abortTest p).cond = s.cond := rfl
@[simp] theorem State.abortTest_pins : (s.abortTest p).pins = s.pins := rfl
@[simp] theorem State.abortTest_straps : (s.abortTest p).straps = s.straps := rfl
@[simp] theorem State.abortTest_sup : (s.abortTest p).sup = s.sup := rfl
@[simp] theorem State.abortTest_cac : (s.abortTest p).cac = s.cac := rfl
@[simp] theorem State.abortTest_ports : (s.abortTest p).ports =
    s.ports.set p.val { s.port p with lineAttempt := some .aborted } := rfl
@[simp] theorem State.abortTest_wakes : (s.abortTest p).wakes = s.wakes := rfl
@[simp] theorem State.abortTest_fga : (s.abortTest p).fga = s.fga := rfl
@[simp] theorem State.abortTest_pdi : (s.abortTest p).pdi = { s.pdi with instrument := none } := rfl
@[simp] theorem State.abortTest_nvs : (s.abortTest p).nvs = s.nvs := rfl
@[simp] theorem State.abortTest_hlk : (s.abortTest p).hlk =
    { s.hlk with
      flags := s.hlk.flags ||| kindBit PortEvent.lineTestDone.priority
      masks := setMask s.hlk.masks .lineTestDone (maskOf s.hlk.masks .lineTestDone ||| portBit p) } := rfl
@[simp] theorem State.abortTest_freeUses : (s.abortTest p).freeUses = s.freeUses := rfl
@[simp] theorem State.abortTest_pending : (s.abortTest p).pending = s.pending := rfl

/-! A reset -/

@[simp] theorem State.afterReset_pins : (s.afterReset).pins = s.pins := rfl
@[simp] theorem State.afterReset_straps : (s.afterReset).straps = s.straps := rfl
@[simp] theorem State.afterReset_freeUses : (s.afterReset).freeUses = s.freeUses := rfl
@[simp] theorem State.afterReset_pending : (s.afterReset).pending = s.pending := rfl

/-! The outage cycle: cacBegin -/

@[simp] theorem State.cacBegin_cond : (s.cacBegin).cond = s.cond := rfl
@[simp] theorem State.cacBegin_pins : (s.cacBegin).pins = s.pins := rfl
@[simp] theorem State.cacBegin_straps : (s.cacBegin).straps = s.straps := rfl
@[simp] theorem State.cacBegin_sup : (s.cacBegin).sup = s.sup := rfl
@[simp] theorem State.cacBegin_cac : (s.cacBegin).cac =
    { s.cac with credit := 0, promotion := 0, candidate := none, lowBankRun := 0, float := .idle } := rfl
@[simp] theorem State.cacBegin_ports : (s.cacBegin).ports = s.ports := rfl
@[simp] theorem State.cacBegin_wakes : (s.cacBegin).wakes = s.wakes := rfl
@[simp] theorem State.cacBegin_fga : (s.cacBegin).fga = s.fga := rfl
@[simp] theorem State.cacBegin_pdi : (s.cacBegin).pdi = s.pdi := rfl
@[simp] theorem State.cacBegin_nvs : (s.cacBegin).nvs = s.nvs := rfl
@[simp] theorem State.cacBegin_hlk : (s.cacBegin).hlk = s.hlk := rfl
@[simp] theorem State.cacBegin_freeUses : (s.cacBegin).freeUses = s.freeUses := rfl
@[simp] theorem State.cacBegin_pending : (s.cacBegin).pending = s.pending := rfl

/-! The outage cycle: hlkBegin -/

@[simp] theorem State.hlkBegin_cond : (s.hlkBegin).cond = s.cond := rfl
@[simp] theorem State.hlkBegin_pins : (s.hlkBegin).pins = s.pins := rfl
@[simp] theorem State.hlkBegin_straps : (s.hlkBegin).straps = s.straps := rfl
@[simp] theorem State.hlkBegin_sup : (s.hlkBegin).sup = s.sup := rfl
@[simp] theorem State.hlkBegin_cac : (s.hlkBegin).cac = s.cac := rfl
@[simp] theorem State.hlkBegin_ports : (s.hlkBegin).ports = s.ports := rfl
@[simp] theorem State.hlkBegin_wakes : (s.hlkBegin).wakes = s.wakes := rfl
@[simp] theorem State.hlkBegin_fga : (s.hlkBegin).fga = s.fga := rfl
@[simp] theorem State.hlkBegin_pdi : (s.hlkBegin).pdi = s.pdi := rfl
@[simp] theorem State.hlkBegin_nvs : (s.hlkBegin).nvs = s.nvs := rfl
@[simp] theorem State.hlkBegin_hlk : (s.hlkBegin).hlk =
    { s.hlk with supervision := .supervised, token := 1, window := .long 300 } := rfl
@[simp] theorem State.hlkBegin_freeUses : (s.hlkBegin).freeUses = s.freeUses := rfl
@[simp] theorem State.hlkBegin_pending : (s.hlkBegin).pending = s.pending := rfl

/-! The outage cycle: hlkEnd -/

@[simp] theorem State.hlkEnd_cond : (s.hlkEnd).cond = s.cond := rfl
@[simp] theorem State.hlkEnd_pins : (s.hlkEnd).pins = s.pins := rfl
@[simp] theorem State.hlkEnd_straps : (s.hlkEnd).straps = s.straps := rfl
@[simp] theorem State.hlkEnd_sup : (s.hlkEnd).sup = s.sup := rfl
@[simp] theorem State.hlkEnd_cac : (s.hlkEnd).cac = s.cac := rfl
@[simp] theorem State.hlkEnd_ports : (s.hlkEnd).ports = s.ports := rfl
@[simp] theorem State.hlkEnd_wakes : (s.hlkEnd).wakes = s.wakes := rfl
@[simp] theorem State.hlkEnd_fga : (s.hlkEnd).fga = s.fga := rfl
@[simp] theorem State.hlkEnd_pdi : (s.hlkEnd).pdi = s.pdi := rfl
@[simp] theorem State.hlkEnd_nvs : (s.hlkEnd).nvs = s.nvs := rfl
@[simp] theorem State.hlkEnd_hlk : (s.hlkEnd).hlk =
    { s.hlk with supervision := .supervised, token := 1, window := .noWindow } := rfl
@[simp] theorem State.hlkEnd_freeUses : (s.hlkEnd).freeUses = s.freeUses := rfl
@[simp] theorem State.hlkEnd_pending : (s.hlkEnd).pending = s.pending := rfl

/-! The outage cycle: wksEnd -/

@[simp] theorem State.wksEnd_cond : (s.wksEnd).cond = s.cond := by simp [State.wksEnd]
@[simp] theorem State.wksEnd_pins : (s.wksEnd).pins = s.pins := by simp [State.wksEnd]
@[simp] theorem State.wksEnd_straps : (s.wksEnd).straps = s.straps := by simp [State.wksEnd]
@[simp] theorem State.wksEnd_sup : (s.wksEnd).sup = s.sup := by simp [State.wksEnd]
@[simp] theorem State.wksEnd_cac : (s.wksEnd).cac = s.cac := by simp [State.wksEnd]
@[simp] theorem State.wksEnd_wakes : (s.wksEnd).wakes = [] := by simp [State.wksEnd]
@[simp] theorem State.wksEnd_fga : (s.wksEnd).fga = s.fga := by simp [State.wksEnd]
@[simp] theorem State.wksEnd_pdi : (s.wksEnd).pdi = s.pdi := by simp [State.wksEnd]
@[simp] theorem State.wksEnd_nvs : (s.wksEnd).nvs = s.nvs := by simp [State.wksEnd]
@[simp] theorem State.wksEnd_hlk : (s.wksEnd).hlk = s.hlk := by simp [State.wksEnd]
@[simp] theorem State.wksEnd_freeUses : (s.wksEnd).freeUses = s.freeUses := by simp [State.wksEnd]
@[simp] theorem State.wksEnd_pending : (s.wksEnd).pending = s.pending := by simp [State.wksEnd]

/-! The outage cycle: fswEnd -/

@[simp] theorem State.fswEnd_cond : (s.fswEnd).cond = s.cond := by simp [State.fswEnd]
@[simp] theorem State.fswEnd_pins : (s.fswEnd).pins = s.pins := by simp [State.fswEnd]
@[simp] theorem State.fswEnd_straps : (s.fswEnd).straps = s.straps := by simp [State.fswEnd]
@[simp] theorem State.fswEnd_sup : (s.fswEnd).sup = s.sup := by simp [State.fswEnd]
@[simp] theorem State.fswEnd_cac : (s.fswEnd).cac = s.cac := by simp [State.fswEnd]
@[simp] theorem State.fswEnd_wakes : (s.fswEnd).wakes = s.wakes := by simp [State.fswEnd]
@[simp] theorem State.fswEnd_fga : (s.fswEnd).fga = s.fga := by simp [State.fswEnd]
@[simp] theorem State.fswEnd_pdi : (s.fswEnd).pdi = s.pdi := by simp [State.fswEnd]
@[simp] theorem State.fswEnd_nvs : (s.fswEnd).nvs = s.nvs := by simp [State.fswEnd]
@[simp] theorem State.fswEnd_hlk : (s.fswEnd).hlk = s.hlk := by simp [State.fswEnd]
@[simp] theorem State.fswEnd_freeUses : (s.fswEnd).freeUses = s.freeUses := by simp [State.fswEnd]
@[simp] theorem State.fswEnd_pending : (s.fswEnd).pending = s.pending := by simp [State.fswEnd]

/-! The outage cycle: ptbEnd -/

@[simp] theorem State.ptbEnd_cond : (s.ptbEnd).cond = s.cond := by simp [State.ptbEnd]
@[simp] theorem State.ptbEnd_pins : (s.ptbEnd).pins = s.pins := by simp [State.ptbEnd]
@[simp] theorem State.ptbEnd_straps : (s.ptbEnd).straps = s.straps := by simp [State.ptbEnd]
@[simp] theorem State.ptbEnd_sup : (s.ptbEnd).sup = s.sup := by simp [State.ptbEnd]
@[simp] theorem State.ptbEnd_cac : (s.ptbEnd).cac = s.cac := by simp [State.ptbEnd]
@[simp] theorem State.ptbEnd_wakes : (s.ptbEnd).wakes = s.wakes := by simp [State.ptbEnd]
@[simp] theorem State.ptbEnd_fga : (s.ptbEnd).fga = s.fga := by simp [State.ptbEnd]
@[simp] theorem State.ptbEnd_pdi : (s.ptbEnd).pdi = s.pdi := by simp [State.ptbEnd]
@[simp] theorem State.ptbEnd_nvs : (s.ptbEnd).nvs = s.nvs := by simp [State.ptbEnd]
@[simp] theorem State.ptbEnd_hlk : (s.ptbEnd).hlk = s.hlk := by simp [State.ptbEnd]
@[simp] theorem State.ptbEnd_freeUses : (s.ptbEnd).freeUses = s.freeUses := by simp [State.ptbEnd]
@[simp] theorem State.ptbEnd_pending : (s.ptbEnd).pending = s.pending := by simp [State.ptbEnd]

/-! The outage cycle: ctuEnd -/

@[simp] theorem State.ctuEnd_cond : (s.ctuEnd).cond = s.cond := by simp [State.ctuEnd]
@[simp] theorem State.ctuEnd_pins : (s.ctuEnd).pins = s.pins := by simp [State.ctuEnd]
@[simp] theorem State.ctuEnd_straps : (s.ctuEnd).straps = s.straps := by simp [State.ctuEnd]
@[simp] theorem State.ctuEnd_sup : (s.ctuEnd).sup = s.sup := by simp [State.ctuEnd]
@[simp] theorem State.ctuEnd_cac : (s.ctuEnd).cac = s.cac := by simp [State.ctuEnd]
@[simp] theorem State.ctuEnd_wakes : (s.ctuEnd).wakes = s.wakes := by simp [State.ctuEnd]
@[simp] theorem State.ctuEnd_fga : (s.ctuEnd).fga = s.fga := by simp [State.ctuEnd]
@[simp] theorem State.ctuEnd_pdi : (s.ctuEnd).pdi = s.pdi := by simp [State.ctuEnd]
@[simp] theorem State.ctuEnd_nvs : (s.ctuEnd).nvs = s.nvs := by simp [State.ctuEnd]
@[simp] theorem State.ctuEnd_hlk : (s.ctuEnd).hlk = s.hlk := by simp [State.ctuEnd]
@[simp] theorem State.ctuEnd_freeUses : (s.ctuEnd).freeUses = s.freeUses := by simp [State.ctuEnd]
@[simp] theorem State.ctuEnd_pending : (s.ctuEnd).pending = s.pending := by simp [State.ctuEnd]

/-! SUP enters OUTAGE -/

@[simp] theorem State.supBegin_cond (e0 : Nat) : (s.supBegin e0).cond = s.cond := rfl
@[simp] theorem State.supBegin_pins (e0 : Nat) : (s.supBegin e0).pins = s.pins := rfl
@[simp] theorem State.supBegin_straps (e0 : Nat) : (s.supBegin e0).straps = s.straps := rfl
@[simp] theorem State.supBegin_sup (e0 : Nat) : (s.supBegin e0).sup =
    { s.sup with
      mode := .outage
      outageTime := e0
      lossConf := none
      returnConf := none
      forced := false
      bankWatch := if s.pins.bankLow then some 10 else none } := rfl
@[simp] theorem State.supBegin_cac (e0 : Nat) : (s.supBegin e0).cac = s.cac := rfl
@[simp] theorem State.supBegin_ports (e0 : Nat) : (s.supBegin e0).ports = s.ports := rfl
@[simp] theorem State.supBegin_wakes (e0 : Nat) : (s.supBegin e0).wakes = s.wakes := rfl
@[simp] theorem State.supBegin_fga (e0 : Nat) : (s.supBegin e0).fga = s.fga := rfl
@[simp] theorem State.supBegin_pdi (e0 : Nat) : (s.supBegin e0).pdi = s.pdi := rfl
@[simp] theorem State.supBegin_nvs (e0 : Nat) : (s.supBegin e0).nvs = s.nvs := rfl
@[simp] theorem State.supBegin_hlk (e0 : Nat) : (s.supBegin e0).hlk = s.hlk := rfl
@[simp] theorem State.supBegin_freeUses (e0 : Nat) : (s.supBegin e0).freeUses = s.freeUses := rfl
@[simp] theorem State.supBegin_pending (e0 : Nat) : (s.supBegin e0).pending = s.pending := rfl

/-! SUP enters STANDBY -/

@[simp] theorem State.supEnd_cond (d : Nat) : (s.supEnd d).cond = s.cond := rfl
@[simp] theorem State.supEnd_pins (d : Nat) : (s.supEnd d).pins = s.pins := rfl
@[simp] theorem State.supEnd_straps (d : Nat) : (s.supEnd d).straps = s.straps := rfl
@[simp] theorem State.supEnd_sup (d : Nat) : (s.supEnd d).sup =
    { s.sup with
      mode := .standby
      outageTime := 0
      lossConf := none
      returnConf := none
      bankWatch := none
      forced := false
      lastOutage := d } := rfl
@[simp] theorem State.supEnd_cac (d : Nat) : (s.supEnd d).cac = s.cac := rfl
@[simp] theorem State.supEnd_ports (d : Nat) : (s.supEnd d).ports = s.ports := rfl
@[simp] theorem State.supEnd_wakes (d : Nat) : (s.supEnd d).wakes = s.wakes := rfl
@[simp] theorem State.supEnd_fga (d : Nat) : (s.supEnd d).fga = s.fga := rfl
@[simp] theorem State.supEnd_pdi (d : Nat) : (s.supEnd d).pdi = s.pdi := rfl
@[simp] theorem State.supEnd_nvs (d : Nat) : (s.supEnd d).nvs = s.nvs := rfl
@[simp] theorem State.supEnd_hlk (d : Nat) : (s.supEnd d).hlk = s.hlk := rfl
@[simp] theorem State.supEnd_freeUses (d : Nat) : (s.supEnd d).freeUses = s.freeUses := rfl
@[simp] theorem State.supEnd_pending (d : Nat) : (s.supEnd d).pending = s.pending := rfl

/-! The profile area loaded -/

@[simp] theorem State.loadArea_cond (a : AreaContents) : (s.loadArea a).cond = s.cond := rfl
@[simp] theorem State.loadArea_pins (a : AreaContents) : (s.loadArea a).pins = s.pins := rfl
@[simp] theorem State.loadArea_straps (a : AreaContents) : (s.loadArea a).straps = s.straps := rfl
@[simp] theorem State.loadArea_sup (a : AreaContents) : (s.loadArea a).sup = s.sup := rfl
@[simp] theorem State.loadArea_cac (a : AreaContents) : (s.loadArea a).cac = { s.cac with params := a.params } := rfl
@[simp] theorem State.loadArea_wakes (a : AreaContents) : (s.loadArea a).wakes = s.wakes := rfl
@[simp] theorem State.loadArea_fga (a : AreaContents) : (s.loadArea a).fga = s.fga := rfl
@[simp] theorem State.loadArea_pdi (a : AreaContents) : (s.loadArea a).pdi = s.pdi := rfl
@[simp] theorem State.loadArea_nvs (a : AreaContents) : (s.loadArea a).nvs = s.nvs := rfl
@[simp] theorem State.loadArea_hlk (a : AreaContents) : (s.loadArea a).hlk = { s.hlk with enables := a.enables } := rfl
@[simp] theorem State.loadArea_freeUses (a : AreaContents) : (s.loadArea a).freeUses = s.freeUses := rfl
@[simp] theorem State.loadArea_pending (a : AreaContents) : (s.loadArea a).pending = s.pending := rfl

/-! The ports settled -/

@[simp] theorem State.settlePorts_cond (m : PortMask) : (s.settlePorts m).cond = s.cond := by simp [State.settlePorts]
@[simp] theorem State.settlePorts_pins (m : PortMask) : (s.settlePorts m).pins = s.pins := by simp [State.settlePorts]
@[simp] theorem State.settlePorts_straps (m : PortMask) : (s.settlePorts m).straps = s.straps := by simp [State.settlePorts]
@[simp] theorem State.settlePorts_sup (m : PortMask) : (s.settlePorts m).sup = s.sup := by simp [State.settlePorts]
@[simp] theorem State.settlePorts_cac (m : PortMask) : (s.settlePorts m).cac = s.cac := by simp [State.settlePorts]
@[simp] theorem State.settlePorts_ports (m : PortMask) : (s.settlePorts m).ports =
    Vector.ofFn fun p => Port.settle m p (s.port p) := by simp [State.settlePorts]
@[simp] theorem State.settlePorts_wakes (m : PortMask) : (s.settlePorts m).wakes = s.wakes := by simp [State.settlePorts]
@[simp] theorem State.settlePorts_fga (m : PortMask) : (s.settlePorts m).fga = s.fga := by simp [State.settlePorts]
@[simp] theorem State.settlePorts_pdi (m : PortMask) : (s.settlePorts m).pdi = s.pdi := by simp [State.settlePorts]
@[simp] theorem State.settlePorts_nvs (m : PortMask) : (s.settlePorts m).nvs = s.nvs := by simp [State.settlePorts]
@[simp] theorem State.settlePorts_hlk (m : PortMask) : (s.settlePorts m).hlk = s.hlk := by simp [State.settlePorts]
@[simp] theorem State.settlePorts_freeUses (m : PortMask) : (s.settlePorts m).freeUses = s.freeUses := by simp [State.settlePorts]
@[simp] theorem State.settlePorts_pending (m : PortMask) : (s.settlePorts m).pending = s.pending := by simp [State.settlePorts]

/-! ### Updates that branch -/

@[simp] theorem State.requestCheckpoint_cond : (s.requestCheckpoint).cond = s.cond := by
  unfold State.requestCheckpoint; split <;> rfl
@[simp] theorem State.requestCheckpoint_pins : (s.requestCheckpoint).pins = s.pins := by
  unfold State.requestCheckpoint; split <;> rfl
@[simp] theorem State.requestCheckpoint_straps : (s.requestCheckpoint).straps = s.straps := by
  unfold State.requestCheckpoint; split <;> rfl
@[simp] theorem State.requestCheckpoint_sup : (s.requestCheckpoint).sup = s.sup := by
  unfold State.requestCheckpoint; split <;> rfl
@[simp] theorem State.requestCheckpoint_cac : (s.requestCheckpoint).cac = s.cac := by
  unfold State.requestCheckpoint; split <;> rfl
@[simp] theorem State.requestCheckpoint_ports : (s.requestCheckpoint).ports = s.ports := by
  unfold State.requestCheckpoint; split <;> rfl
@[simp] theorem State.requestCheckpoint_wakes : (s.requestCheckpoint).wakes = s.wakes := by
  unfold State.requestCheckpoint; split <;> rfl
@[simp] theorem State.requestCheckpoint_fga : (s.requestCheckpoint).fga = s.fga := by
  unfold State.requestCheckpoint; split <;> rfl
@[simp] theorem State.requestCheckpoint_pdi : (s.requestCheckpoint).pdi = s.pdi := by
  unfold State.requestCheckpoint; split <;> rfl
@[simp] theorem State.requestCheckpoint_hlk : (s.requestCheckpoint).hlk = s.hlk := by
  unfold State.requestCheckpoint; split <;> rfl
@[simp] theorem State.requestCheckpoint_freeUses : (s.requestCheckpoint).freeUses = s.freeUses := by
  unfold State.requestCheckpoint; split <;> rfl
@[simp] theorem State.requestCheckpoint_pending : (s.requestCheckpoint).pending = s.pending := by
  unfold State.requestCheckpoint; split <;> rfl
@[simp] theorem State.nextOperation_cond : (s.nextOperation).cond = s.cond := by
  unfold State.nextOperation; repeat' split
  all_goals rfl
@[simp] theorem State.nextOperation_pins : (s.nextOperation).pins = s.pins := by
  unfold State.nextOperation; repeat' split
  all_goals rfl
@[simp] theorem State.nextOperation_straps : (s.nextOperation).straps = s.straps := by
  unfold State.nextOperation; repeat' split
  all_goals rfl
@[simp] theorem State.nextOperation_sup : (s.nextOperation).sup = s.sup := by
  unfold State.nextOperation; repeat' split
  all_goals rfl
@[simp] theorem State.nextOperation_cac : (s.nextOperation).cac = s.cac := by
  unfold State.nextOperation; repeat' split
  all_goals rfl
@[simp] theorem State.nextOperation_ports : (s.nextOperation).ports = s.ports := by
  unfold State.nextOperation; repeat' split
  all_goals rfl
@[simp] theorem State.nextOperation_wakes : (s.nextOperation).wakes = s.wakes := by
  unfold State.nextOperation; repeat' split
  all_goals rfl
@[simp] theorem State.nextOperation_fga : (s.nextOperation).fga = s.fga := by
  unfold State.nextOperation; repeat' split
  all_goals rfl
@[simp] theorem State.nextOperation_pdi : (s.nextOperation).pdi = s.pdi := by
  unfold State.nextOperation; repeat' split
  all_goals rfl
@[simp] theorem State.nextOperation_hlk : (s.nextOperation).hlk = s.hlk := by
  unfold State.nextOperation; repeat' split
  all_goals rfl
@[simp] theorem State.nextOperation_freeUses : (s.nextOperation).freeUses = s.freeUses := by
  unfold State.nextOperation; repeat' split
  all_goals rfl
@[simp] theorem State.nextOperation_pending : (s.nextOperation).pending = s.pending := by
  unfold State.nextOperation; repeat' split
  all_goals rfl
@[simp] theorem State.setWake_cond : (s.setWake p).cond = s.cond := by
  unfold State.setWake; split <;> rfl
@[simp] theorem State.setWake_pins : (s.setWake p).pins = s.pins := by
  unfold State.setWake; split <;> rfl
@[simp] theorem State.setWake_straps : (s.setWake p).straps = s.straps := by
  unfold State.setWake; split <;> rfl
@[simp] theorem State.setWake_sup : (s.setWake p).sup = s.sup := by
  unfold State.setWake; split <;> rfl
@[simp] theorem State.setWake_cac : (s.setWake p).cac = s.cac := by
  unfold State.setWake; split <;> rfl
@[simp] theorem State.setWake_ports : (s.setWake p).ports = s.ports := by
  unfold State.setWake; split <;> rfl
@[simp] theorem State.setWake_fga : (s.setWake p).fga = s.fga := by
  unfold State.setWake; split <;> rfl
@[simp] theorem State.setWake_pdi : (s.setWake p).pdi = s.pdi := by
  unfold State.setWake; split <;> rfl
@[simp] theorem State.setWake_nvs : (s.setWake p).nvs = s.nvs := by
  unfold State.setWake; split <;> rfl
@[simp] theorem State.setWake_hlk : (s.setWake p).hlk = s.hlk := by
  unfold State.setWake; split <;> rfl
@[simp] theorem State.setWake_freeUses : (s.setWake p).freeUses = s.freeUses := by
  unfold State.setWake; split <;> rfl
@[simp] theorem State.setWake_pending : (s.setWake p).pending = s.pending := by
  unfold State.setWake; split <;> rfl
@[simp] theorem State.rescheduleWake_cond : (s.rescheduleWake p).cond = s.cond := by
  unfold State.rescheduleWake; repeat' split
  all_goals rfl
@[simp] theorem State.rescheduleWake_pins : (s.rescheduleWake p).pins = s.pins := by
  unfold State.rescheduleWake; repeat' split
  all_goals rfl
@[simp] theorem State.rescheduleWake_straps : (s.rescheduleWake p).straps = s.straps := by
  unfold State.rescheduleWake; repeat' split
  all_goals rfl
@[simp] theorem State.rescheduleWake_sup : (s.rescheduleWake p).sup = s.sup := by
  unfold State.rescheduleWake; repeat' split
  all_goals rfl
@[simp] theorem State.rescheduleWake_cac : (s.rescheduleWake p).cac = s.cac := by
  unfold State.rescheduleWake; repeat' split
  all_goals rfl
@[simp] theorem State.rescheduleWake_ports : (s.rescheduleWake p).ports = s.ports := by
  unfold State.rescheduleWake; repeat' split
  all_goals rfl
@[simp] theorem State.rescheduleWake_fga : (s.rescheduleWake p).fga = s.fga := by
  unfold State.rescheduleWake; repeat' split
  all_goals rfl
@[simp] theorem State.rescheduleWake_pdi : (s.rescheduleWake p).pdi = s.pdi := by
  unfold State.rescheduleWake; repeat' split
  all_goals rfl
@[simp] theorem State.rescheduleWake_nvs : (s.rescheduleWake p).nvs = s.nvs := by
  unfold State.rescheduleWake; repeat' split
  all_goals rfl
@[simp] theorem State.rescheduleWake_hlk : (s.rescheduleWake p).hlk = s.hlk := by
  unfold State.rescheduleWake; repeat' split
  all_goals rfl
@[simp] theorem State.rescheduleWake_freeUses : (s.rescheduleWake p).freeUses = s.freeUses := by
  unfold State.rescheduleWake; repeat' split
  all_goals rfl
@[simp] theorem State.rescheduleWake_pending : (s.rescheduleWake p).pending = s.pending := by
  unfold State.rescheduleWake; repeat' split
  all_goals rfl
@[simp] theorem State.askTest_cond (source : TestSource) : (s.askTest p source).cond = s.cond := by
  unfold State.askTest; split <;> rfl
@[simp] theorem State.askTest_pins (source : TestSource) : (s.askTest p source).pins = s.pins := by
  unfold State.askTest; split <;> rfl
@[simp] theorem State.askTest_straps (source : TestSource) : (s.askTest p source).straps = s.straps := by
  unfold State.askTest; split <;> rfl
@[simp] theorem State.askTest_sup (source : TestSource) : (s.askTest p source).sup = s.sup := by
  unfold State.askTest; split <;> rfl
@[simp] theorem State.askTest_cac (source : TestSource) : (s.askTest p source).cac = s.cac := by
  unfold State.askTest; split <;> rfl
@[simp] theorem State.askTest_ports (source : TestSource) : (s.askTest p source).ports = s.ports := by
  unfold State.askTest; split <;> rfl
@[simp] theorem State.askTest_wakes (source : TestSource) : (s.askTest p source).wakes = s.wakes := by
  unfold State.askTest; split <;> rfl
@[simp] theorem State.askTest_fga (source : TestSource) : (s.askTest p source).fga = s.fga := by
  unfold State.askTest; split <;> rfl
@[simp] theorem State.askTest_nvs (source : TestSource) : (s.askTest p source).nvs = s.nvs := by
  unfold State.askTest; split <;> rfl
@[simp] theorem State.askTest_hlk (source : TestSource) : (s.askTest p source).hlk = s.hlk := by
  unfold State.askTest; split <;> rfl
@[simp] theorem State.askTest_freeUses (source : TestSource) : (s.askTest p source).freeUses = s.freeUses := by
  unfold State.askTest; split <;> rfl
@[simp] theorem State.askTest_pending (source : TestSource) : (s.askTest p source).pending = s.pending := by
  unfold State.askTest; split <;> rfl
@[simp] theorem State.lock_cond (why : LockReason) : (s.lock p why).cond = s.cond := by
  simp [State.lock]
@[simp] theorem State.lock_pins (why : LockReason) : (s.lock p why).pins = s.pins := by
  simp [State.lock]
@[simp] theorem State.lock_straps (why : LockReason) : (s.lock p why).straps = s.straps := by
  simp [State.lock]
@[simp] theorem State.lock_sup (why : LockReason) : (s.lock p why).sup = s.sup := by
  simp [State.lock]
@[simp] theorem State.lock_cac (why : LockReason) : (s.lock p why).cac = s.cac := by
  simp [State.lock]
@[simp] theorem State.lock_wakes (why : LockReason) : (s.lock p why).wakes = s.wakes := by
  simp [State.lock]
@[simp] theorem State.lock_fga (why : LockReason) : (s.lock p why).fga = s.fga := by
  simp [State.lock]
@[simp] theorem State.lock_pdi (why : LockReason) : (s.lock p why).pdi = s.pdi := by
  simp [State.lock]
@[simp] theorem State.lock_freeUses (why : LockReason) : (s.lock p why).freeUses = s.freeUses := by
  simp [State.lock]
@[simp] theorem State.lock_pending (why : LockReason) : (s.lock p why).pending = s.pending := by
  simp [State.lock]
@[simp] theorem State.unlock_cond : (s.unlock p).cond = s.cond := by
  simp [State.unlock]
@[simp] theorem State.unlock_pins : (s.unlock p).pins = s.pins := by
  simp [State.unlock]
@[simp] theorem State.unlock_straps : (s.unlock p).straps = s.straps := by
  simp [State.unlock]
@[simp] theorem State.unlock_sup : (s.unlock p).sup = s.sup := by
  simp [State.unlock]
@[simp] theorem State.unlock_cac : (s.unlock p).cac = s.cac := by
  simp [State.unlock]
@[simp] theorem State.unlock_wakes : (s.unlock p).wakes = s.wakes := by
  simp [State.unlock]
@[simp] theorem State.unlock_fga : (s.unlock p).fga = s.fga := by
  simp [State.unlock]
@[simp] theorem State.unlock_pdi : (s.unlock p).pdi = s.pdi := by
  simp [State.unlock]
@[simp] theorem State.unlock_hlk : (s.unlock p).hlk = s.hlk := by
  simp [State.unlock]
@[simp] theorem State.unlock_freeUses : (s.unlock p).freeUses = s.freeUses := by
  simp [State.unlock]
@[simp] theorem State.unlock_pending : (s.unlock p).pending = s.pending := by
  simp [State.unlock]
@[simp] theorem State.joinQueue_cond : (s.joinQueue p).cond = s.cond := by
  unfold State.joinQueue; split <;> rfl
@[simp] theorem State.joinQueue_pins : (s.joinQueue p).pins = s.pins := by
  unfold State.joinQueue; split <;> rfl
@[simp] theorem State.joinQueue_straps : (s.joinQueue p).straps = s.straps := by
  unfold State.joinQueue; split <;> rfl
@[simp] theorem State.joinQueue_sup : (s.joinQueue p).sup = s.sup := by
  unfold State.joinQueue; split <;> rfl
@[simp] theorem State.joinQueue_cac : (s.joinQueue p).cac = s.cac := by
  unfold State.joinQueue; split <;> rfl
@[simp] theorem State.joinQueue_wakes : (s.joinQueue p).wakes = s.wakes := by
  unfold State.joinQueue; split <;> rfl
@[simp] theorem State.joinQueue_pdi : (s.joinQueue p).pdi = s.pdi := by
  unfold State.joinQueue; split <;> rfl
@[simp] theorem State.joinQueue_nvs : (s.joinQueue p).nvs = s.nvs := by
  unfold State.joinQueue; split <;> rfl
@[simp] theorem State.joinQueue_hlk : (s.joinQueue p).hlk = s.hlk := by
  unfold State.joinQueue; split <;> rfl
@[simp] theorem State.joinQueue_freeUses : (s.joinQueue p).freeUses = s.freeUses := by
  unfold State.joinQueue; split <;> rfl
@[simp] theorem State.joinQueue_pending : (s.joinQueue p).pending = s.pending := by
  unfold State.joinQueue; split <;> rfl
@[simp] theorem State.requeue_cond : (s.requeue p).cond = s.cond := by
  simp [State.requeue]
@[simp] theorem State.requeue_pins : (s.requeue p).pins = s.pins := by
  simp [State.requeue]
@[simp] theorem State.requeue_straps : (s.requeue p).straps = s.straps := by
  simp [State.requeue]
@[simp] theorem State.requeue_sup : (s.requeue p).sup = s.sup := by
  simp [State.requeue]
@[simp] theorem State.requeue_cac : (s.requeue p).cac = s.cac := by
  simp [State.requeue]
@[simp] theorem State.requeue_wakes : (s.requeue p).wakes = s.wakes := by
  simp [State.requeue]
@[simp] theorem State.requeue_pdi : (s.requeue p).pdi = s.pdi := by
  simp [State.requeue]
@[simp] theorem State.requeue_nvs : (s.requeue p).nvs = s.nvs := by
  simp [State.requeue]
@[simp] theorem State.requeue_hlk : (s.requeue p).hlk = s.hlk := by
  simp [State.requeue]
@[simp] theorem State.requeue_freeUses : (s.requeue p).freeUses = s.freeUses := by
  simp [State.requeue]
@[simp] theorem State.requeue_pending : (s.requeue p).pending = s.pending := by
  simp [State.requeue]
@[simp] theorem State.endFeedQuietly_cond : (s.endFeedQuietly p).cond = s.cond := by
  unfold State.endFeedQuietly; split <;> rfl
@[simp] theorem State.endFeedQuietly_pins : (s.endFeedQuietly p).pins = s.pins := by
  unfold State.endFeedQuietly; split <;> rfl
@[simp] theorem State.endFeedQuietly_straps : (s.endFeedQuietly p).straps = s.straps := by
  unfold State.endFeedQuietly; split <;> rfl
@[simp] theorem State.endFeedQuietly_sup : (s.endFeedQuietly p).sup = s.sup := by
  unfold State.endFeedQuietly; split <;> rfl
@[simp] theorem State.endFeedQuietly_cac : (s.endFeedQuietly p).cac = s.cac := by
  unfold State.endFeedQuietly; split <;> rfl
@[simp] theorem State.endFeedQuietly_wakes : (s.endFeedQuietly p).wakes = s.wakes := by
  unfold State.endFeedQuietly; split <;> rfl
@[simp] theorem State.endFeedQuietly_pdi : (s.endFeedQuietly p).pdi = s.pdi := by
  unfold State.endFeedQuietly; split <;> rfl
@[simp] theorem State.endFeedQuietly_nvs : (s.endFeedQuietly p).nvs = s.nvs := by
  unfold State.endFeedQuietly; split <;> rfl
@[simp] theorem State.endFeedQuietly_hlk : (s.endFeedQuietly p).hlk = s.hlk := by
  unfold State.endFeedQuietly; split <;> rfl
@[simp] theorem State.endFeedQuietly_freeUses : (s.endFeedQuietly p).freeUses = s.freeUses := by
  unfold State.endFeedQuietly; split <;> rfl
@[simp] theorem State.endFeedQuietly_pending : (s.endFeedQuietly p).pending = s.pending := by
  unfold State.endFeedQuietly; split <;> rfl
@[simp] theorem State.setStage_cond (st : Stage) : (s.setStage st).cond = s.cond := by
  unfold State.setStage; split <;> simp
@[simp] theorem State.setStage_pins (st : Stage) : (s.setStage st).pins = s.pins := by
  unfold State.setStage; split <;> simp
@[simp] theorem State.setStage_straps (st : Stage) : (s.setStage st).straps = s.straps := by
  unfold State.setStage; split <;> simp
@[simp] theorem State.setStage_sup (st : Stage) : (s.setStage st).sup = s.sup := by
  unfold State.setStage; split <;> simp
@[simp] theorem State.setStage_ports (st : Stage) : (s.setStage st).ports = s.ports := by
  unfold State.setStage; split <;> simp
@[simp] theorem State.setStage_wakes (st : Stage) : (s.setStage st).wakes = s.wakes := by
  unfold State.setStage; split <;> simp
@[simp] theorem State.setStage_fga (st : Stage) : (s.setStage st).fga = s.fga := by
  unfold State.setStage; split <;> simp
@[simp] theorem State.setStage_pdi (st : Stage) : (s.setStage st).pdi = s.pdi := by
  unfold State.setStage; split <;> simp
@[simp] theorem State.setStage_freeUses (st : Stage) : (s.setStage st).freeUses = s.freeUses := by
  unfold State.setStage; split <;> simp
@[simp] theorem State.setStage_pending (st : Stage) : (s.setStage st).pending = s.pending := by
  unfold State.setStage; split <;> simp
@[simp] theorem State.startFloat_cond : (s.startFloat).cond = s.cond := by
  unfold State.startFloat; split <;> rfl
@[simp] theorem State.startFloat_pins : (s.startFloat).pins = s.pins := by
  unfold State.startFloat; split <;> rfl
@[simp] theorem State.startFloat_straps : (s.startFloat).straps = s.straps := by
  unfold State.startFloat; split <;> rfl
@[simp] theorem State.startFloat_sup : (s.startFloat).sup = s.sup := by
  unfold State.startFloat; split <;> rfl
@[simp] theorem State.startFloat_ports : (s.startFloat).ports = s.ports := by
  unfold State.startFloat; split <;> rfl
@[simp] theorem State.startFloat_wakes : (s.startFloat).wakes = s.wakes := by
  unfold State.startFloat; split <;> rfl
@[simp] theorem State.startFloat_fga : (s.startFloat).fga = s.fga := by
  unfold State.startFloat; split <;> rfl
@[simp] theorem State.startFloat_pdi : (s.startFloat).pdi = s.pdi := by
  unfold State.startFloat; split <;> rfl
@[simp] theorem State.startFloat_nvs : (s.startFloat).nvs = s.nvs := by
  unfold State.startFloat; split <;> rfl
@[simp] theorem State.startFloat_hlk : (s.startFloat).hlk = s.hlk := by
  unfold State.startFloat; split <;> rfl
@[simp] theorem State.startFloat_freeUses : (s.startFloat).freeUses = s.freeUses := by
  unfold State.startFloat; split <;> rfl
@[simp] theorem State.startFloat_pending : (s.startFloat).pending = s.pending := by
  unfold State.startFloat; split <;> rfl
@[simp] theorem State.ctuBeginOne_cond : (s.ctuBeginOne p).cond = s.cond := by
  unfold State.ctuBeginOne; split <;> rfl
@[simp] theorem State.ctuBeginOne_pins : (s.ctuBeginOne p).pins = s.pins := by
  unfold State.ctuBeginOne; split <;> rfl
@[simp] theorem State.ctuBeginOne_straps : (s.ctuBeginOne p).straps = s.straps := by
  unfold State.ctuBeginOne; split <;> rfl
@[simp] theorem State.ctuBeginOne_sup : (s.ctuBeginOne p).sup = s.sup := by
  unfold State.ctuBeginOne; split <;> rfl
@[simp] theorem State.ctuBeginOne_cac : (s.ctuBeginOne p).cac = s.cac := by
  unfold State.ctuBeginOne; split <;> rfl
@[simp] theorem State.ctuBeginOne_wakes : (s.ctuBeginOne p).wakes = s.wakes := by
  unfold State.ctuBeginOne; split <;> rfl
@[simp] theorem State.ctuBeginOne_fga : (s.ctuBeginOne p).fga = s.fga := by
  unfold State.ctuBeginOne; split <;> rfl
@[simp] theorem State.ctuBeginOne_pdi : (s.ctuBeginOne p).pdi = s.pdi := by
  unfold State.ctuBeginOne; split <;> rfl
@[simp] theorem State.ctuBeginOne_nvs : (s.ctuBeginOne p).nvs = s.nvs := by
  unfold State.ctuBeginOne; split <;> rfl
@[simp] theorem State.ctuBeginOne_hlk : (s.ctuBeginOne p).hlk = s.hlk := by
  unfold State.ctuBeginOne; split <;> rfl
@[simp] theorem State.ctuBeginOne_freeUses : (s.ctuBeginOne p).freeUses = s.freeUses := by
  unfold State.ctuBeginOne; split <;> rfl
@[simp] theorem State.ctuBeginOne_pending : (s.ctuBeginOne p).pending = s.pending := by
  unfold State.ctuBeginOne; split <;> rfl
@[simp] theorem State.recoverArea_cond (read : Bool) : (s.recoverArea read).cond = s.cond := by
  unfold State.recoverArea; split <;> rfl
@[simp] theorem State.recoverArea_pins (read : Bool) : (s.recoverArea read).pins = s.pins := by
  unfold State.recoverArea; split <;> rfl
@[simp] theorem State.recoverArea_straps (read : Bool) : (s.recoverArea read).straps = s.straps := by
  unfold State.recoverArea; split <;> rfl
@[simp] theorem State.recoverArea_sup (read : Bool) : (s.recoverArea read).sup = s.sup := by
  unfold State.recoverArea; split <;> rfl
@[simp] theorem State.recoverArea_wakes (read : Bool) : (s.recoverArea read).wakes = s.wakes := by
  unfold State.recoverArea; split <;> rfl
@[simp] theorem State.recoverArea_fga (read : Bool) : (s.recoverArea read).fga = s.fga := by
  unfold State.recoverArea; split <;> rfl
@[simp] theorem State.recoverArea_pdi (read : Bool) : (s.recoverArea read).pdi = s.pdi := by
  unfold State.recoverArea; split <;> rfl
@[simp] theorem State.recoverArea_freeUses (read : Bool) : (s.recoverArea read).freeUses = s.freeUses := by
  unfold State.recoverArea; split <;> rfl
@[simp] theorem State.recoverArea_pending (read : Bool) : (s.recoverArea read).pending = s.pending := by
  unfold State.recoverArea; split <;> rfl
@[simp] theorem State.settleRing_cond (read : Bool) (cp : Option (Fin 32 × Checkpoint)) : (s.settleRing read cp).cond =
    s.cond := by
  unfold State.settleRing; split <;> rfl
@[simp] theorem State.settleRing_pins (read : Bool) (cp : Option (Fin 32 × Checkpoint)) : (s.settleRing read cp).pins =
    s.pins := by
  unfold State.settleRing; split <;> rfl
@[simp] theorem State.settleRing_straps (read : Bool) (cp : Option (Fin 32 × Checkpoint)) : (s.settleRing read cp).straps =
    s.straps := by
  unfold State.settleRing; split <;> rfl
@[simp] theorem State.settleRing_sup (read : Bool) (cp : Option (Fin 32 × Checkpoint)) : (s.settleRing read cp).sup = s.sup := by
  unfold State.settleRing; split <;> rfl
@[simp] theorem State.settleRing_cac (read : Bool) (cp : Option (Fin 32 × Checkpoint)) : (s.settleRing read cp).cac = s.cac := by
  unfold State.settleRing; split <;> rfl
@[simp] theorem State.settleRing_ports (read : Bool) (cp : Option (Fin 32 × Checkpoint)) : (s.settleRing read cp).ports =
    s.ports := by
  unfold State.settleRing; split <;> rfl
@[simp] theorem State.settleRing_wakes (read : Bool) (cp : Option (Fin 32 × Checkpoint)) : (s.settleRing read cp).wakes =
    s.wakes := by
  unfold State.settleRing; split <;> rfl
@[simp] theorem State.settleRing_fga (read : Bool) (cp : Option (Fin 32 × Checkpoint)) : (s.settleRing read cp).fga = s.fga := by
  unfold State.settleRing; split <;> rfl
@[simp] theorem State.settleRing_pdi (read : Bool) (cp : Option (Fin 32 × Checkpoint)) : (s.settleRing read cp).pdi = s.pdi := by
  unfold State.settleRing; split <;> rfl
@[simp] theorem State.settleRing_hlk (read : Bool) (cp : Option (Fin 32 × Checkpoint)) : (s.settleRing read cp).hlk = s.hlk := by
  unfold State.settleRing; split <;> rfl
@[simp] theorem State.settleRing_freeUses (read : Bool) (cp : Option (Fin 32 × Checkpoint)) : (s.settleRing read cp).freeUses =
    s.freeUses := by
  unfold State.settleRing; split <;> rfl
@[simp] theorem State.settleRing_pending (read : Bool) (cp : Option (Fin 32 × Checkpoint)) : (s.settleRing read cp).pending =
    s.pending := by
  unfold State.settleRing; split <;> rfl
@[simp] theorem State.settleAccount_cond (cp : Option Checkpoint) : (s.settleAccount cp).cond = s.cond := by
  unfold State.settleAccount; split <;> rfl
@[simp] theorem State.settleAccount_pins (cp : Option Checkpoint) : (s.settleAccount cp).pins = s.pins := by
  unfold State.settleAccount; split <;> rfl
@[simp] theorem State.settleAccount_straps (cp : Option Checkpoint) : (s.settleAccount cp).straps = s.straps := by
  unfold State.settleAccount; split <;> rfl
@[simp] theorem State.settleAccount_sup (cp : Option Checkpoint) : (s.settleAccount cp).sup = s.sup := by
  unfold State.settleAccount; split <;> rfl
@[simp] theorem State.settleAccount_ports (cp : Option Checkpoint) : (s.settleAccount cp).ports = s.ports := by
  unfold State.settleAccount; split <;> rfl
@[simp] theorem State.settleAccount_wakes (cp : Option Checkpoint) : (s.settleAccount cp).wakes = s.wakes := by
  unfold State.settleAccount; split <;> rfl
@[simp] theorem State.settleAccount_fga (cp : Option Checkpoint) : (s.settleAccount cp).fga = s.fga := by
  unfold State.settleAccount; split <;> rfl
@[simp] theorem State.settleAccount_pdi (cp : Option Checkpoint) : (s.settleAccount cp).pdi = s.pdi := by
  unfold State.settleAccount; split <;> rfl
@[simp] theorem State.settleAccount_nvs (cp : Option Checkpoint) : (s.settleAccount cp).nvs = s.nvs := by
  unfold State.settleAccount; split <;> rfl
@[simp] theorem State.settleAccount_freeUses (cp : Option Checkpoint) : (s.settleAccount cp).freeUses = s.freeUses := by
  unfold State.settleAccount; split <;> rfl
@[simp] theorem State.settleAccount_pending (cp : Option Checkpoint) : (s.settleAccount cp).pending = s.pending := by
  unfold State.settleAccount; split <;> rfl
@[simp] theorem Port.enter_profile (q : Port) (st : PortState) : (q.enter st).profile = q.profile := by
  unfold Port.enter; repeat' split
  all_goals rfl
@[simp] theorem Port.enter_term (q : Port) (st : PortState) : (q.enter st).term = q.term := by
  unfold Port.enter; repeat' split
  all_goals rfl
@[simp] theorem Port.enter_identity (q : Port) (st : PortState) : (q.enter st).identity = q.identity := by
  unfold Port.enter; repeat' split
  all_goals rfl
@[simp] theorem Port.enter_cellVolts (q : Port) (st : PortState) : (q.enter st).cellVolts = q.cellVolts := by
  unfold Port.enter; repeat' split
  all_goals rfl
@[simp] theorem Port.enter_cellLow (q : Port) (st : PortState) : (q.enter st).cellLow = q.cellLow := by
  unfold Port.enter; repeat' split
  all_goals rfl
@[simp] theorem Port.enter_hold (q : Port) (st : PortState) : (q.enter st).hold = q.hold := by
  unfold Port.enter; repeat' split
  all_goals rfl
@[simp] theorem Port.enter_standbyFeed (q : Port) (st : PortState) : (q.enter st).standbyFeed = q.standbyFeed := by
  unfold Port.enter; repeat' split
  all_goals rfl
@[simp] theorem Port.enter_burst (q : Port) (st : PortState) : (q.enter st).burst = q.burst := by
  unfold Port.enter; repeat' split
  all_goals rfl
@[simp] theorem Port.enter_silence (q : Port) (st : PortState) : (q.enter st).silence = q.silence := by
  unfold Port.enter; repeat' split
  all_goals rfl
@[simp] theorem Port.enter_checkin (q : Port) (st : PortState) : (q.enter st).checkin = q.checkin := by
  unfold Port.enter; repeat' split
  all_goals rfl
@[simp] theorem Port.enter_missed (q : Port) (st : PortState) : (q.enter st).missed = q.missed := by
  unfold Port.enter; repeat' split
  all_goals rfl
@[simp] theorem Port.enter_lockReason (q : Port) (st : PortState) : (q.enter st).lockReason = q.lockReason := by
  unfold Port.enter; repeat' split
  all_goals rfl
@[simp] theorem Port.enter_cellRecord (q : Port) (st : PortState) : (q.enter st).cellRecord = q.cellRecord := by
  unfold Port.enter; repeat' split
  all_goals rfl
@[simp] theorem Port.enter_lineRecord (q : Port) (st : PortState) : (q.enter st).lineRecord = q.lineRecord := by
  unfold Port.enter; repeat' split
  all_goals rfl
@[simp] theorem Port.enter_lineAttempt (q : Port) (st : PortState) : (q.enter st).lineAttempt = q.lineAttempt := by
  unfold Port.enter; repeat' split
  all_goals rfl
@[simp] theorem Port.enter_counters (q : Port) (st : PortState) : (q.enter st).counters = q.counters := by
  unfold Port.enter; repeat' split
  all_goals rfl
@[simp] theorem Port.enter_tripKind (q : Port) (st : PortState) : (q.enter st).tripKind = q.tripKind := by
  unfold Port.enter; repeat' split
  all_goals rfl
@[simp] theorem Port.enter_tripsTotal (q : Port) (st : PortState) : (q.enter st).tripsTotal = q.tripsTotal := by
  unfold Port.enter; repeat' split
  all_goals rfl
@[simp] theorem Port.enter_mailbox (q : Port) (st : PortState) : (q.enter st).mailbox = q.mailbox := by
  unfold Port.enter; repeat' split
  all_goals rfl
@[simp] theorem Port.enter_switch (q : Port) (st : PortState) : (q.enter st).switch = q.switch := by
  unfold Port.enter; repeat' split
  all_goals rfl
@[simp] theorem Port.enter_cell (q : Port) (st : PortState) : (q.enter st).cell = q.cell := by
  unfold Port.enter; repeat' split
  all_goals rfl
@[simp] theorem Port.enter_periodicDue (q : Port) (st : PortState) : (q.enter st).periodicDue = q.periodicDue := by
  unfold Port.enter; repeat' split
  all_goals rfl
@[simp] theorem Port.enter_state (q : Port) (st : PortState) : (q.enter st).state = st := by
  unfold Port.enter; repeat' split
  all_goals rfl
@[simp] theorem Port.ask_profile (q : Port) (x : Sending) : (q.ask x).profile = q.profile := by
  unfold Port.ask; split <;> rfl
@[simp] theorem Port.ask_state (q : Port) (x : Sending) : (q.ask x).state = q.state := by
  unfold Port.ask; split <;> rfl
@[simp] theorem Port.ask_term (q : Port) (x : Sending) : (q.ask x).term = q.term := by
  unfold Port.ask; split <;> rfl
@[simp] theorem Port.ask_identity (q : Port) (x : Sending) : (q.ask x).identity = q.identity := by
  unfold Port.ask; split <;> rfl
@[simp] theorem Port.ask_cellVolts (q : Port) (x : Sending) : (q.ask x).cellVolts = q.cellVolts := by
  unfold Port.ask; split <;> rfl
@[simp] theorem Port.ask_cellLow (q : Port) (x : Sending) : (q.ask x).cellLow = q.cellLow := by
  unfold Port.ask; split <;> rfl
@[simp] theorem Port.ask_hold (q : Port) (x : Sending) : (q.ask x).hold = q.hold := by
  unfold Port.ask; split <;> rfl
@[simp] theorem Port.ask_standbyFeed (q : Port) (x : Sending) : (q.ask x).standbyFeed = q.standbyFeed := by
  unfold Port.ask; split <;> rfl
@[simp] theorem Port.ask_burst (q : Port) (x : Sending) : (q.ask x).burst = q.burst := by
  unfold Port.ask; split <;> rfl
@[simp] theorem Port.ask_silence (q : Port) (x : Sending) : (q.ask x).silence = q.silence := by
  unfold Port.ask; split <;> rfl
@[simp] theorem Port.ask_checkin (q : Port) (x : Sending) : (q.ask x).checkin = q.checkin := by
  unfold Port.ask; split <;> rfl
@[simp] theorem Port.ask_missed (q : Port) (x : Sending) : (q.ask x).missed = q.missed := by
  unfold Port.ask; split <;> rfl
@[simp] theorem Port.ask_lockReason (q : Port) (x : Sending) : (q.ask x).lockReason = q.lockReason := by
  unfold Port.ask; split <;> rfl
@[simp] theorem Port.ask_cellRecord (q : Port) (x : Sending) : (q.ask x).cellRecord = q.cellRecord := by
  unfold Port.ask; split <;> rfl
@[simp] theorem Port.ask_lineRecord (q : Port) (x : Sending) : (q.ask x).lineRecord = q.lineRecord := by
  unfold Port.ask; split <;> rfl
@[simp] theorem Port.ask_lineAttempt (q : Port) (x : Sending) : (q.ask x).lineAttempt = q.lineAttempt := by
  unfold Port.ask; split <;> rfl
@[simp] theorem Port.ask_counters (q : Port) (x : Sending) : (q.ask x).counters = q.counters := by
  unfold Port.ask; split <;> rfl
@[simp] theorem Port.ask_tripKind (q : Port) (x : Sending) : (q.ask x).tripKind = q.tripKind := by
  unfold Port.ask; split <;> rfl
@[simp] theorem Port.ask_tripsTotal (q : Port) (x : Sending) : (q.ask x).tripsTotal = q.tripsTotal := by
  unfold Port.ask; split <;> rfl
@[simp] theorem Port.ask_mailbox (q : Port) (x : Sending) : (q.ask x).mailbox = q.mailbox := by
  unfold Port.ask; split <;> rfl
@[simp] theorem Port.ask_rx (q : Port) (x : Sending) : (q.ask x).rx = q.rx := by
  unfold Port.ask; split <;> rfl
@[simp] theorem Port.ask_switch (q : Port) (x : Sending) : (q.ask x).switch = q.switch := by
  unfold Port.ask; split <;> rfl
@[simp] theorem Port.ask_cell (q : Port) (x : Sending) : (q.ask x).cell = q.cell := by
  unfold Port.ask; split <;> rfl
@[simp] theorem Port.ask_periodicDue (q : Port) (x : Sending) : (q.ask x).periodicDue = q.periodicDue := by
  unfold Port.ask; split <;> rfl
@[simp] theorem Port.clearTest_profile (q : Port) : (q.clearTest).profile = q.profile := rfl
@[simp] theorem Port.clearTest_state (q : Port) : (q.clearTest).state = q.state := rfl
@[simp] theorem Port.clearTest_term (q : Port) : (q.clearTest).term = q.term := rfl
@[simp] theorem Port.clearTest_identity (q : Port) : (q.clearTest).identity = q.identity := rfl
@[simp] theorem Port.clearTest_cellVolts (q : Port) : (q.clearTest).cellVolts = q.cellVolts := rfl
@[simp] theorem Port.clearTest_cellLow (q : Port) : (q.clearTest).cellLow = q.cellLow := rfl
@[simp] theorem Port.clearTest_hold (q : Port) : (q.clearTest).hold = q.hold := rfl
@[simp] theorem Port.clearTest_standbyFeed (q : Port) : (q.clearTest).standbyFeed = q.standbyFeed := rfl
@[simp] theorem Port.clearTest_burst (q : Port) : (q.clearTest).burst = q.burst := rfl
@[simp] theorem Port.clearTest_silence (q : Port) : (q.clearTest).silence = q.silence := rfl
@[simp] theorem Port.clearTest_checkin (q : Port) : (q.clearTest).checkin = q.checkin := rfl
@[simp] theorem Port.clearTest_missed (q : Port) : (q.clearTest).missed = q.missed := rfl
@[simp] theorem Port.clearTest_lockReason (q : Port) : (q.clearTest).lockReason = q.lockReason := rfl
@[simp] theorem Port.clearTest_cellRecord (q : Port) : (q.clearTest).cellRecord = q.cellRecord := rfl
@[simp] theorem Port.clearTest_lineRecord (q : Port) : (q.clearTest).lineRecord = q.lineRecord := rfl
@[simp] theorem Port.clearTest_lineAttempt (q : Port) : (q.clearTest).lineAttempt = q.lineAttempt := rfl
@[simp] theorem Port.clearTest_counters (q : Port) : (q.clearTest).counters = q.counters := rfl
@[simp] theorem Port.clearTest_tripKind (q : Port) : (q.clearTest).tripKind = q.tripKind := rfl
@[simp] theorem Port.clearTest_tripsTotal (q : Port) : (q.clearTest).tripsTotal = q.tripsTotal := rfl
@[simp] theorem Port.clearTest_mailbox (q : Port) : (q.clearTest).mailbox = q.mailbox := rfl
@[simp] theorem Port.clearTest_rx (q : Port) : (q.clearTest).rx = q.rx := rfl
@[simp] theorem Port.clearTest_tx (q : Port) : (q.clearTest).tx = q.tx := rfl
@[simp] theorem Port.clearTest_switch (q : Port) : (q.clearTest).switch = q.switch := rfl
@[simp] theorem Port.clearTest_periodicDue (q : Port) : (q.clearTest).periodicDue = q.periodicDue := rfl
@[simp] theorem Port.beginSending_profile (q : Port) : (q.beginSending).profile = q.profile := by
  unfold Port.beginSending; split <;> rfl
@[simp] theorem Port.beginSending_state (q : Port) : (q.beginSending).state = q.state := by
  unfold Port.beginSending; split <;> rfl
@[simp] theorem Port.beginSending_term (q : Port) : (q.beginSending).term = q.term := by
  unfold Port.beginSending; split <;> rfl
@[simp] theorem Port.beginSending_identity (q : Port) : (q.beginSending).identity = q.identity := by
  unfold Port.beginSending; split <;> rfl
@[simp] theorem Port.beginSending_cellVolts (q : Port) : (q.beginSending).cellVolts = q.cellVolts := by
  unfold Port.beginSending; split <;> rfl
@[simp] theorem Port.beginSending_cellLow (q : Port) : (q.beginSending).cellLow = q.cellLow := by
  unfold Port.beginSending; split <;> rfl
@[simp] theorem Port.beginSending_hold (q : Port) : (q.beginSending).hold = q.hold := by
  unfold Port.beginSending; split <;> rfl
@[simp] theorem Port.beginSending_standbyFeed (q : Port) : (q.beginSending).standbyFeed = q.standbyFeed := by
  unfold Port.beginSending; split <;> rfl
@[simp] theorem Port.beginSending_burst (q : Port) : (q.beginSending).burst = q.burst := by
  unfold Port.beginSending; split <;> rfl
@[simp] theorem Port.beginSending_silence (q : Port) : (q.beginSending).silence = q.silence := by
  unfold Port.beginSending; split <;> rfl
@[simp] theorem Port.beginSending_checkin (q : Port) : (q.beginSending).checkin = q.checkin := by
  unfold Port.beginSending; split <;> rfl
@[simp] theorem Port.beginSending_missed (q : Port) : (q.beginSending).missed = q.missed := by
  unfold Port.beginSending; split <;> rfl
@[simp] theorem Port.beginSending_lockReason (q : Port) : (q.beginSending).lockReason = q.lockReason := by
  unfold Port.beginSending; split <;> rfl
@[simp] theorem Port.beginSending_cellRecord (q : Port) : (q.beginSending).cellRecord = q.cellRecord := by
  unfold Port.beginSending; split <;> rfl
@[simp] theorem Port.beginSending_lineRecord (q : Port) : (q.beginSending).lineRecord = q.lineRecord := by
  unfold Port.beginSending; split <;> rfl
@[simp] theorem Port.beginSending_lineAttempt (q : Port) : (q.beginSending).lineAttempt = q.lineAttempt := by
  unfold Port.beginSending; split <;> rfl
@[simp] theorem Port.beginSending_counters (q : Port) : (q.beginSending).counters = q.counters := by
  unfold Port.beginSending; split <;> rfl
@[simp] theorem Port.beginSending_tripKind (q : Port) : (q.beginSending).tripKind = q.tripKind := by
  unfold Port.beginSending; split <;> rfl
@[simp] theorem Port.beginSending_tripsTotal (q : Port) : (q.beginSending).tripsTotal = q.tripsTotal := by
  unfold Port.beginSending; split <;> rfl
@[simp] theorem Port.beginSending_mailbox (q : Port) : (q.beginSending).mailbox = q.mailbox := by
  unfold Port.beginSending; split <;> rfl
@[simp] theorem Port.beginSending_switch (q : Port) : (q.beginSending).switch = q.switch := by
  unfold Port.beginSending; split <;> rfl
@[simp] theorem Port.beginSending_cell (q : Port) : (q.beginSending).cell = q.cell := by
  unfold Port.beginSending; split <;> rfl
@[simp] theorem Port.beginSending_periodicDue (q : Port) : (q.beginSending).periodicDue = q.periodicDue := by
  unfold Port.beginSending; split <;> rfl
@[simp] theorem Port.endSending_profile (q : Port) : (q.endSending).profile = q.profile := by
  unfold Port.endSending; split <;> rfl
@[simp] theorem Port.endSending_state (q : Port) : (q.endSending).state = q.state := by
  unfold Port.endSending; split <;> rfl
@[simp] theorem Port.endSending_term (q : Port) : (q.endSending).term = q.term := by
  unfold Port.endSending; split <;> rfl
@[simp] theorem Port.endSending_identity (q : Port) : (q.endSending).identity = q.identity := by
  unfold Port.endSending; split <;> rfl
@[simp] theorem Port.endSending_cellVolts (q : Port) : (q.endSending).cellVolts = q.cellVolts := by
  unfold Port.endSending; split <;> rfl
@[simp] theorem Port.endSending_cellLow (q : Port) : (q.endSending).cellLow = q.cellLow := by
  unfold Port.endSending; split <;> rfl
@[simp] theorem Port.endSending_hold (q : Port) : (q.endSending).hold = q.hold := by
  unfold Port.endSending; split <;> rfl
@[simp] theorem Port.endSending_standbyFeed (q : Port) : (q.endSending).standbyFeed = q.standbyFeed := by
  unfold Port.endSending; split <;> rfl
@[simp] theorem Port.endSending_burst (q : Port) : (q.endSending).burst = q.burst := by
  unfold Port.endSending; split <;> rfl
@[simp] theorem Port.endSending_silence (q : Port) : (q.endSending).silence = q.silence := by
  unfold Port.endSending; split <;> rfl
@[simp] theorem Port.endSending_checkin (q : Port) : (q.endSending).checkin = q.checkin := by
  unfold Port.endSending; split <;> rfl
@[simp] theorem Port.endSending_missed (q : Port) : (q.endSending).missed = q.missed := by
  unfold Port.endSending; split <;> rfl
@[simp] theorem Port.endSending_lockReason (q : Port) : (q.endSending).lockReason = q.lockReason := by
  unfold Port.endSending; split <;> rfl
@[simp] theorem Port.endSending_cellRecord (q : Port) : (q.endSending).cellRecord = q.cellRecord := by
  unfold Port.endSending; split <;> rfl
@[simp] theorem Port.endSending_lineRecord (q : Port) : (q.endSending).lineRecord = q.lineRecord := by
  unfold Port.endSending; split <;> rfl
@[simp] theorem Port.endSending_lineAttempt (q : Port) : (q.endSending).lineAttempt = q.lineAttempt := by
  unfold Port.endSending; split <;> rfl
@[simp] theorem Port.endSending_counters (q : Port) : (q.endSending).counters = q.counters := by
  unfold Port.endSending; split <;> rfl
@[simp] theorem Port.endSending_tripKind (q : Port) : (q.endSending).tripKind = q.tripKind := by
  unfold Port.endSending; split <;> rfl
@[simp] theorem Port.endSending_tripsTotal (q : Port) : (q.endSending).tripsTotal = q.tripsTotal := by
  unfold Port.endSending; split <;> rfl
@[simp] theorem Port.endSending_mailbox (q : Port) : (q.endSending).mailbox = q.mailbox := by
  unfold Port.endSending; split <;> rfl
@[simp] theorem Port.endSending_switch (q : Port) : (q.endSending).switch = q.switch := by
  unfold Port.endSending; split <;> rfl
@[simp] theorem Port.endSending_cell (q : Port) : (q.endSending).cell = q.cell := by
  unfold Port.endSending; split <;> rfl
@[simp] theorem Port.endSending_periodicDue (q : Port) : (q.endSending).periodicDue = q.periodicDue := by
  unfold Port.endSending; split <;> rfl
@[simp] theorem Switch.close_samples (w : Switch) : (w.close).samples = w.samples := rfl
@[simp] theorem Switch.close_average (w : Switch) : (w.close).average = w.average := rfl
@[simp] theorem Switch.close_trips (w : Switch) : (w.close).trips = w.trips := rfl
@[simp] theorem Switch.close_backoff (w : Switch) : (w.close).backoff = w.backoff := rfl
@[simp] theorem Switch.openUp_samples (w : Switch) : (w.openUp).samples = w.samples := rfl
@[simp] theorem Switch.openUp_average (w : Switch) : (w.openUp).average = w.average := rfl
@[simp] theorem Switch.openUp_trips (w : Switch) : (w.openUp).trips = w.trips := rfl
@[simp] theorem Switch.openUp_backoff (w : Switch) : (w.openUp).backoff = w.backoff := rfl
@[simp] theorem Switch.sample_closed (n : Nat) (w : Switch) : (w.sample n).closed = w.closed := rfl
@[simp] theorem Switch.sample_blanking (n : Nat) (w : Switch) : (w.sample n).blanking = w.blanking := rfl
@[simp] theorem Switch.sample_overload (n : Nat) (w : Switch) : (w.sample n).overload = w.overload := rfl
@[simp] theorem Switch.sample_clean (n : Nat) (w : Switch) : (w.sample n).clean = w.clean := rfl
@[simp] theorem Switch.sample_trips (n : Nat) (w : Switch) : (w.sample n).trips = w.trips := rfl
@[simp] theorem Switch.sample_backoff (n : Nat) (w : Switch) : (w.sample n).backoff = w.backoff := rfl
@[simp] theorem Switch.openUp_closed (w : Switch) : w.openUp.closed = false := rfl
@[simp] theorem Switch.openUp_blanking (w : Switch) : w.openUp.blanking = none := rfl
@[simp] theorem Switch.openUp_overload (w : Switch) : w.openUp.overload = none := rfl
@[simp] theorem Switch.openUp_clean (w : Switch) : w.openUp.clean = none := rfl
@[simp] theorem Switch.close_closed (w : Switch) : w.close.closed = true := rfl
@[simp] theorem Switch.close_blanking (w : Switch) : w.close.blanking = some 200 := rfl
@[simp] theorem Switch.close_overload (w : Switch) : w.close.overload = none := rfl
@[simp] theorem Switch.close_clean (w : Switch) : w.close.clean = some 60 := rfl

/-! ### Reading one port -/

@[simp] theorem State.port_setPort_self (q : Port) : (s.setPort p q).port p = q := by
  simp [State.port]

theorem State.port_setPort_ne (q : Port) (h : r ≠ p) : (s.setPort p q).port r = s.port r := by
  have : p.val ≠ r.val := fun e => h (Fin.ext e.symm)
  simp [State.port, this]

/-- A read after a write of one port. -/
theorem State.port_setPort (q : Port) : (s.setPort p q).port r = if r = p then q else s.port r := by
  split
  · next h => subst h; simp
  · next h => exact s.port_setPort_ne p r q h

@[simp] theorem State.port_modPort_self (f : Port → Port) : (s.modPort p f).port p = f (s.port p) :=
  s.port_setPort_self p _

theorem State.port_modPort_ne (f : Port → Port) (h : r ≠ p) : (s.modPort p f).port r = s.port r :=
  s.port_setPort_ne p r _ h

theorem State.port_modPort (f : Port → Port) : (s.modPort p f).port r = if r = p then f (s.port p) else s.port r :=
  s.port_setPort p r _

@[simp] theorem State.port_mapPorts (f : PortId → Port → Port) : (s.mapPorts f).port p = f p (s.port p) := by
  simp [State.port, State.mapPorts]

@[simp] theorem State.port_enter_self (st : PortState) : (s.enter p st).port p = (s.port p).enter st :=
  s.port_modPort_self p _

theorem State.port_enter (st : PortState) : (s.enter p st).port r = if r = p then (s.port p).enter st else s.port r :=
  s.port_modPort p r _

@[simp] theorem State.port_ask_self (x : Sending) : (s.ask p x).port p = (s.port p).ask x := s.port_modPort_self p _

theorem State.port_ask (x : Sending) : (s.ask p x).port r = if r = p then (s.port p).ask x else s.port r :=
  s.port_modPort p r _

/-- A port is read from the ports alone. -/
theorem State.port_congr {s t : State} (h : s.ports = t.ports) (p : PortId) : s.port p = t.port p := by
  simp only [State.port, h]

/-- Port records that agree one by one are equal. -/
theorem State.ports_ext {s t : State} (h : ∀ p, s.port p = t.port p) : s.ports = t.ports := by
  apply Vector.ext
  intro i hi
  exact h ⟨i, hi⟩

/-- Two states are equal if their ports agree one by one and everything else agrees. -/
theorem State.ext_ports {s t : State} (h : ∀ p, s.port p = t.port p) (rest : s = { t with ports := s.ports }) : s = t := by
  rw [rest, State.ports_ext h]

/-! Reads of a port through an update that leaves the ports alone. -/

@[simp] theorem State.port_raise (k : PlainEvent) : (s.raise k).port p = s.port p :=
  State.port_congr (by simp) p
@[simp] theorem State.port_raisePort (k : PortEvent) : (s.raisePort k r).port p = s.port p :=
  State.port_congr (by simp) p
@[simp] theorem State.port_requestCheckpoint : (s.requestCheckpoint).port p = s.port p :=
  State.port_congr (by simp) p
@[simp] theorem State.port_nextOperation : (s.nextOperation).port p = s.port p :=
  State.port_congr (by simp) p
@[simp] theorem State.port_beginCheckpoint : (s.beginCheckpoint).port p = s.port p :=
  State.port_congr (by simp) p
@[simp] theorem State.port_beginSave : (s.beginSave).port p = s.port p :=
  State.port_congr (by simp) p
@[simp] theorem State.port_startCheckpointTimer : (s.startCheckpointTimer).port p = s.port p :=
  State.port_congr (by simp) p
@[simp] theorem State.port_dropWake : (s.dropWake r).port p = s.port p :=
  State.port_congr (by simp) p
@[simp] theorem State.port_putWake (due : Nat) : (s.putWake r due).port p = s.port p :=
  State.port_congr (by simp) p
@[simp] theorem State.port_setWake : (s.setWake r).port p = s.port p :=
  State.port_congr (by simp) p
@[simp] theorem State.port_rescheduleWake : (s.rescheduleWake r).port p = s.port p :=
  State.port_congr (by simp) p
@[simp] theorem State.port_askTest (source : TestSource) : (s.askTest r source).port p = s.port p :=
  State.port_congr (by simp) p
@[simp] theorem State.port_discardFrame : (s.discardFrame).port p = s.port p :=
  State.port_congr (by simp) p
@[simp] theorem State.port_answer (code : Nat) (x : Result) (data : List Byte) : (s.answer code x data).port p = s.port p :=
  State.port_congr (by simp) p
@[simp] theorem State.port_setStage (st : Stage) : (s.setStage st).port p = s.port p :=
  State.port_congr (by simp) p
@[simp] theorem State.port_startFloat : (s.startFloat).port p = s.port p :=
  State.port_congr (by simp) p
@[simp] theorem State.port_supBegin (e0 : Nat) : (s.supBegin e0).port p = s.port p :=
  State.port_congr (by simp) p
@[simp] theorem State.port_supEnd (d : Nat) : (s.supEnd d).port p = s.port p :=
  State.port_congr (by simp) p
@[simp] theorem State.port_cacBegin : (s.cacBegin).port p = s.port p :=
  State.port_congr (by simp) p
@[simp] theorem State.port_hlkBegin : (s.hlkBegin).port p = s.port p :=
  State.port_congr (by simp) p
@[simp] theorem State.port_hlkEnd : (s.hlkEnd).port p = s.port p :=
  State.port_congr (by simp) p
@[simp] theorem State.port_settleRing (read : Bool) (cp : Option (Fin 32 × Checkpoint)) : (s.settleRing read cp).port p =
    s.port p :=
  State.port_congr (by simp) p
@[simp] theorem State.port_settleAccount (cp : Option Checkpoint) : (s.settleAccount cp).port p = s.port p :=
  State.port_congr (by simp) p

end Sys2Proof.Machine
end

