-- ==== Sys2Proof/Laws/Ops.lean ====
section
/-! SUPPORT. The shared operations, each with everything it can do: the store, the wake list, the test queue, the locks, the
transmitter and the requests. -/

namespace Sys2Proof.Machine

variable (s : State) (p r : PortId)

/-! ### The store (R174, R175) -/

/-- Asking for a checkpoint: an idle store begins it, any other keeps it pending. -/
theorem State.requestCheckpoint_cases :
    (s.nvs.activity = .idle ∧ s.requestCheckpoint = s.beginCheckpoint)
      ∨ (s.nvs.activity ≠ .idle ∧ s.requestCheckpoint = { s with nvs := { s.nvs with pendingCp := true } }) := by
  unfold State.requestCheckpoint
  split
  · next h => exact .inl ⟨h, rfl⟩
  · next h => exact .inr ⟨h, rfl⟩

/-- However it is asked for, a checkpoint is pending or being written afterwards. -/
theorem State.requestCheckpoint_asked :
    s.requestCheckpoint.nvs.pendingCp = true ∨ ∃ c, s.requestCheckpoint.nvs.activity = .writingCheckpoint c := by
  rcases s.requestCheckpoint_cases with ⟨-, h⟩ | ⟨-, h⟩ <;> rw [h]
  · exact .inr ⟨_, rfl⟩
  · exact .inl rfl

/-- What asking for a checkpoint leaves of the store. -/
theorem State.requestCheckpoint_nvs :
    s.requestCheckpoint.nvs.area = s.nvs.area ∧ s.requestCheckpoint.nvs.waitingSave = s.nvs.waitingSave
      ∧ s.requestCheckpoint.nvs.highSequence = s.nvs.highSequence ∧ s.requestCheckpoint.nvs.cpTimer = s.nvs.cpTimer
      ∧ s.requestCheckpoint.nvs.areaAtStart = s.nvs.areaAtStart
      ∧ s.requestCheckpoint.nvs.saveResult = s.nvs.saveResult := by
  rcases s.requestCheckpoint_cases with ⟨-, h⟩ | ⟨-, h⟩ <;> rw [h] <;> exact ⟨rfl, rfl, rfl, rfl, rfl, rfl⟩

/-- The next operation at the end of a write. -/
theorem State.nextOperation_cases :
    (s.nvs.pendingCp = true ∧ s.nextOperation = s.beginCheckpoint)
      ∨ (s.nvs.pendingCp = false ∧ s.nvs.waitingSave = true ∧ s.nextOperation = s.beginSave)
      ∨ (s.nvs.pendingCp = false ∧ s.nvs.waitingSave = false
          ∧ s.nextOperation = { s with nvs := { s.nvs with activity := .idle } }) := by
  cases hp : s.nvs.pendingCp <;> cases hw : s.nvs.waitingSave <;> simp [State.nextOperation, hp, hw]

/-! ### The wake list (R84, R86) -/

/-- An element is placed among the others, and nothing else changes. -/
theorem mem_placeBy {α : Type} {before : α → α → Bool} {x y : α} : ∀ {l : List α}, y ∈ placeBy before x l ↔ y = x ∨ y ∈ l
  | [] => by simp [placeBy]
  | z :: zs => by
    unfold placeBy
    split
    · simp
    · simp only [List.mem_cons, mem_placeBy (l := zs)]
      constructor <;> (rintro (h | h | h) <;> simp [h])

theorem placeBy_perm {α : Type} (before : α → α → Bool) (x : α) : ∀ l : List α, (placeBy before x l).Perm (x :: l)
  | [] => .refl _
  | y :: ys => by
    unfold placeBy
    split
    · exact .refl _
    · exact ((placeBy_perm before x ys).cons y).trans (.swap x y ys)

@[simp] theorem length_placeBy {α : Type} (before : α → α → Bool) (x : α) (l : List α) :
    (placeBy before x l).length = l.length + 1 := (placeBy_perm before x l).length_eq

/-- Placing by an order keeps a list in that order. -/
theorem placeBy_ordered {α : Type} {before : α → α → Bool} (trans : ∀ a b c, before a b → before b c → before a c) {x : α} :
    ∀ {l : List α}, l.Pairwise (fun a b => before a b = true) → (∀ y ∈ l, before x y = true ∨ before y x = true) →
      (placeBy before x l).Pairwise (fun a b => before a b = true)
  | [], _, _ => by simp [placeBy]
  | y :: ys, ordered, total => by
    have ⟨first, rest⟩ := List.pairwise_cons.mp ordered
    unfold placeBy
    split
    · next h =>
      refine List.pairwise_cons.mpr ⟨fun z hz => ?_, ordered⟩
      rcases List.mem_cons.mp hz with rfl | hz
      · exact h
      · exact trans x y z h (first z hz)
    · next h =>
      refine List.pairwise_cons.mpr ⟨fun z hz => ?_, placeBy_ordered trans rest fun z hz => total z (.tail _ hz)⟩
      rcases mem_placeBy.mp hz with rfl | hz
      · exact (total y (.head _)).resolve_left h
      · exact first z hz

/-- Finding in a list with one element placed: the element, or what was found before. -/
theorem find?_placeBy {α : Type} (before : α → α → Bool) (x : α) (test : α → Bool) :
    ∀ l : List α, (∀ y ∈ l, test y = true → test x = false) →
      (placeBy before x l).find? test = if test x then some x else l.find? test
  | [], _ => by
    cases h : test x <;> simp [placeBy, h]
  | y :: ys, clash => by
    have ih := find?_placeBy before x test ys fun z hz => clash z (.tail _ hz)
    have hy := clash y (.head _)
    unfold placeBy
    split
    · simp only [List.find?_cons]; cases h : test x <;> simp
    · simp only [List.find?_cons, ih]
      cases h : test x <;> cases g : test y <;> simp_all

theorem mem_dropWake {e : WakeEntry} {ws : List WakeEntry} : e ∈ dropWake p ws ↔ e ∈ ws ∧ e.port ≠ p := by
  simp [dropWake]

@[simp] theorem State.wakeOf_dropWake_self : (s.dropWake p).wakeOf p = none := by
  simp [State.wakeOf, Machine.dropWake, List.find?_filter]

theorem State.wakeOf_dropWake_ne (h : r ≠ p) : (s.dropWake p).wakeOf r = s.wakeOf r := by
  simp only [State.wakeOf, State.dropWake_wakes, Machine.dropWake, List.find?_filter]
  congr 2
  funext e
  by_cases g : e.port = r
  · subst g; simp [h]
  · simp [g]

@[simp] theorem State.wakeOf_putWake_self (due : Nat) : (s.putWake p due).wakeOf p = some due := by
  simp only [State.wakeOf, State.putWake_wakes, Machine.putWake]
  rw [find?_placeBy]
  · simp
  · intro y hy ht
    exact absurd (by simpa using ht) ((mem_dropWake p).mp hy).2

theorem State.wakeOf_putWake_ne (due : Nat) (h : r ≠ p) : (s.putWake p due).wakeOf r = s.wakeOf r := by
  have : ((s.putWake p due).wakeOf r) = (s.dropWake p).wakeOf r := by
    simp only [State.wakeOf, State.putWake_wakes, Machine.putWake, State.dropWake_wakes]
    rw [find?_placeBy]
    · simp [Ne.symm h]
    · intro y _ _; simp [Ne.symm h]
  rw [this, s.wakeOf_dropWake_ne p r h]

/-- A wake entry set by the effective interval, or removed where that is none (R86). -/
theorem State.wakeOf_setWake_self : (s.setWake p).wakeOf p = (s.interval p).map (satAdd s.sup.outageTime) := by
  unfold State.setWake
  split
  · next h => simp [h]
  · next h => simp [h]

theorem State.wakeOf_setWake_ne (h : r ≠ p) : (s.setWake p).wakeOf r = s.wakeOf r := by
  unfold State.setWake
  split
  · exact s.wakeOf_putWake_ne p r _ h
  · exact s.wakeOf_dropWake_ne p r h

/-- WKS wakes a port (R90): what becomes of its record. -/
theorem State.wakePort_port_self :
    (s.wakePort p).port p = (({ s.port p with checkin := none }).enter .waking).ask .wakePattern := by
  unfold State.wakePort
  rw [State.port_ask_self, State.port_dropWake, State.port_enter_self, State.port_modPort_self]

theorem State.wakePort_port_ne (h : r ≠ p) : (s.wakePort p).port r = s.port r := by
  unfold State.wakePort
  rw [State.port_ask, if_neg h, State.port_dropWake, State.port_enter, if_neg h, State.port_modPort_ne _ _ _ _ h]

/-! ### The test queue and the locks (R156, R47) -/

/-- Asking for a test: nothing for a port that has an entry, a new entry at the end otherwise. -/
theorem State.askTest_cases (source : TestSource) :
    (s.testQueued p = true ∧ s.askTest p source = s)
      ∨ (s.testQueued p = false ∧ s.askTest p source =
          { s with pdi := { s.pdi with
              queue := s.pdi.queue ++ [{ port := p, source := source, time := s.sup.partTime }] } }) := by
  cases h : s.testQueued p <;> simp [State.askTest, h]

theorem State.testQueued_iff : s.testQueued p = true ↔ p ∈ s.pdi.queue.map (·.port) := by
  simp [State.testQueued, List.any_eq_true]

@[simp] theorem State.testQueued_askTest (source : TestSource) : (s.askTest p source).testQueued p = true := by
  rcases s.askTest_cases p source with ⟨h, g⟩ | ⟨-, g⟩ <;> rw [g]
  · exact h
  · simp [State.testQueued]

/-- When a port's periodic test falls due (R158). -/
abbrev State.periodicWanted : Prop :=
  s.cond = .running ∧ s.sup.mode = .standby ∧ (s.port p).profile.enabled = true ∧ (s.port p).periodicDue ≤ s.sup.partTime

/-- A periodic test that falls due: asked for, and the due time one interval on; nothing otherwise (R158). -/
theorem State.periodicDue_cases :
    (s.periodicWanted p ∧ s.periodicDue p =
        (s.askTest p .periodic).modPort p fun q => { q with periodicDue := s.nextPeriodic })
      ∨ (¬ s.periodicWanted p ∧ s.periodicDue p = s) := by
  unfold State.periodicDue
  split
  · next h => exact .inl ⟨h, rfl⟩
  · next h => exact .inr ⟨h, rfl⟩

theorem State.periodicDue_frame : s.periodicDue p = { s with ports := (s.periodicDue p).ports, pdi := (s.periodicDue p).pdi } := by
  rcases s.periodicDue_cases p with ⟨-, h⟩ | ⟨-, h⟩ <;> rw [h]
  rcases s.askTest_cases p .periodic with ⟨-, g⟩ | ⟨-, g⟩ <;> rw [g] <;> rfl

@[simp] theorem State.periodicDue_cond : (s.periodicDue p).cond = s.cond := by rw [State.periodicDue_frame]
@[simp] theorem State.periodicDue_pins : (s.periodicDue p).pins = s.pins := by rw [State.periodicDue_frame]
@[simp] theorem State.periodicDue_straps : (s.periodicDue p).straps = s.straps := by rw [State.periodicDue_frame]
@[simp] theorem State.periodicDue_sup : (s.periodicDue p).sup = s.sup := by rw [State.periodicDue_frame]
@[simp] theorem State.periodicDue_cac : (s.periodicDue p).cac = s.cac := by rw [State.periodicDue_frame]
@[simp] theorem State.periodicDue_wakes : (s.periodicDue p).wakes = s.wakes := by rw [State.periodicDue_frame]
@[simp] theorem State.periodicDue_fga : (s.periodicDue p).fga = s.fga := by rw [State.periodicDue_frame]
@[simp] theorem State.periodicDue_nvs : (s.periodicDue p).nvs = s.nvs := by rw [State.periodicDue_frame]
@[simp] theorem State.periodicDue_hlk : (s.periodicDue p).hlk = s.hlk := by rw [State.periodicDue_frame]
@[simp] theorem State.periodicDue_freeUses : (s.periodicDue p).freeUses = s.freeUses := by rw [State.periodicDue_frame]
@[simp] theorem State.periodicDue_pending : (s.periodicDue p).pending = s.pending := by rw [State.periodicDue_frame]

@[simp] theorem State.periodicDue_instrument : (s.periodicDue p).pdi.instrument = s.pdi.instrument := by
  rcases s.periodicDue_cases p with ⟨-, h⟩ | ⟨-, h⟩ <;> rw [h]
  rcases s.askTest_cases p .periodic with ⟨-, g⟩ | ⟨-, g⟩ <;> rw [g] <;> rfl

theorem State.periodicDue_port_self (h : s.periodicWanted p) :
    (s.periodicDue p).port p = { s.port p with periodicDue := s.nextPeriodic } := by
  rcases s.periodicDue_cases p with ⟨-, g⟩ | ⟨g, -⟩
  · rw [g]; simp
  · exact absurd h g

theorem State.periodicDue_port_ne (h : r ≠ p) : (s.periodicDue p).port r = s.port r := by
  rcases s.periodicDue_cases p with ⟨-, g⟩ | ⟨-, g⟩ <;> rw [g]
  rw [State.port_modPort_ne _ _ _ _ h]
  simp [State.port]

@[simp] theorem State.periodicDue_nextPeriodic : (s.periodicDue p).nextPeriodic = s.nextPeriodic := by
  simp [State.nextPeriodic]

theorem State.periodicDue_port (r : PortId) :
    (s.periodicDue p).port r =
      if r = p ∧ s.periodicWanted p then { s.port r with periodicDue := s.nextPeriodic } else s.port r := by
  by_cases h : r = p
  · subst h
    rcases s.periodicDue_cases r with ⟨w, g⟩ | ⟨w, g⟩
    · rw [s.periodicDue_port_self r w, if_pos ⟨rfl, w⟩]
    · rw [g, if_neg fun k => w k.2]
  · rw [s.periodicDue_port_ne p r h, if_neg fun k => h k.1]

/-- The requests for a list of ports, each once: the due time of every one that is overdue moves on (R158). -/
theorem State.forPorts_periodicDue_port (ps : List PortId) (hp : ps.Nodup) (r : PortId) :
    (s.forPorts ps State.periodicDue).port r =
      if r ∈ ps ∧ s.periodicWanted r then { s.port r with periodicDue := s.nextPeriodic } else s.port r := by
  induction ps generalizing s with
  | nil => simp [State.forPorts]
  | cons q qs ih =>
    obtain ⟨hq, hqs⟩ := List.nodup_cons.mp hp
    have step : (s.forPorts (q :: qs) State.periodicDue).port r = ((s.periodicDue q).forPorts qs State.periodicDue).port r := rfl
    rw [step, ih (s.periodicDue q) hqs]
    by_cases h : r = q
    · subst h
      simp [hq, State.periodicDue_port]
    · have hw : (s.periodicDue q).periodicWanted r ↔ s.periodicWanted r := by
        simp [State.periodicWanted, s.periodicDue_port_ne q r h]
      simp only [hw, s.periodicDue_port_ne q r h, State.periodicDue_nextPeriodic, List.mem_cons, h, false_or]

/-- A port is in the lockout mask exactly when it is locked (R47). -/
theorem State.lockoutMask_bit : s.lockoutMask.getLsbD p.val = s.locked p := by
  have key : ∀ (l : List PortId) (m : PortMask),
      (l.foldl (fun m q => if s.locked q then m ||| portBit q else m) m).getLsbD p.val
        = (m.getLsbD p.val || (l.any fun q => decide (q = p) && s.locked q)) := by
    intro l
    induction l with
    | nil => simp
    | cons q qs ih =>
      intro m
      rw [List.foldl_cons, ih, List.any_cons]
      cases h : s.locked q
      · simp
      · simp only [if_true]
        rw [mask_join, Bool.and_true, Bool.or_assoc]
  rw [State.lockoutMask, key]
  have : (allPorts.any fun q => decide (q = p) && s.locked q) = s.locked p := by
    cases h : s.locked p
    · rw [List.any_eq_false]
      intro q _ g
      simp only [Bool.and_eq_true, decide_eq_true_eq] at g
      rw [g.1, h] at g
      exact absurd g.2 (by simp)
    · exact List.any_eq_true.mpr ⟨p, mem_allPorts p, by simp [h]⟩
  rw [this]
  simp

/-- A lock (R133, R163): what becomes of the port. -/
theorem State.lock_port_self (why : LockReason) :
    (s.lock p why).port p = ({ s.port p with lockReason := some why } : Port).enter .locked := by
  simp [State.lock]

theorem State.lock_port_ne (why : LockReason) (h : r ≠ p) : (s.lock p why).port r = s.port r := by
  simp [State.lock, State.port_enter, h, State.port_modPort_ne]

/-- An unlock (R162, R166): what becomes of the port. -/
theorem State.unlock_port_self :
    (s.unlock p).port p =
      ({ s.port p with lockReason := none, switch := { (s.port p).switch with trips := 0 } } : Port).enter .idle := by
  simp [State.unlock]

theorem State.unlock_port_ne (h : r ≠ p) : (s.unlock p).port r = s.port r := by
  simp [State.unlock, State.port_enter, h, State.port_modPort_ne]

/-! ### Port states and sendings (R64, R78, R81) -/

/-- A port that goes to a state: everything that becomes of its record. -/
theorem Port.enter_cases (q : Port) (st : PortState) :
    (st.silent = true ∧ q.enter st = { q with state := st, rx := .gated, tx := {} })
      ∨ (st.silent = false ∧ q.state.silent = true ∧ q.enter st = { q with state := st, rx := .hunt, tx := {} })
      ∨ (st.silent = false ∧ q.state.silent = false ∧ q.enter st = { q with state := st }) := by
  cases h : st.silent <;> cases g : q.state.silent <;> simp [Port.enter, h, g]

/-- Between states that are heard, only the state moves. -/
theorem Port.enter_heard {q : Port} {st : PortState} (h : st.silent = false) (g : q.state.silent = false) :
    q.enter st = { q with state := st } := by
  simp [Port.enter, h, g]

theorem Port.ask_heard {q : Port} {x : Sending} (h : q.state.silent = false) : q.ask x = { q with tx := q.tx.ask x } := by
  simp [Port.ask, h]

theorem Port.ask_silent {q : Port} {x : Sending} (h : q.state.silent = true) : q.ask x = q := by
  simp [Port.ask, h]

/-! ### Requests (R179, R181, R185, R3) -/

/-- Everything a request frame can meet. -/
theorem State.takeRequest_cases (code : Nat) (inStart : Bool) (act : State → Answer) :
    ((s.cond ≠ .running ∨ s.hlk.restarting = true) ∧ s.takeRequest code inStart act = s)
      ∨ (s.cond = .running ∧ s.hlk.restarting = false ∧ 4 ≤ s.hlk.replies.length
          ∧ s.takeRequest code inStart act = s.discardFrame)
      ∨ (s.cond = .running ∧ s.hlk.restarting = false ∧ s.hlk.replies.length < 4 ∧ s.sup.mode = .start ∧ inStart = false
          ∧ s.takeRequest code inStart act = s.answer code .busy [])
      ∨ (s.cond = .running ∧ s.hlk.restarting = false ∧ s.hlk.replies.length < 4 ∧ (s.sup.mode ≠ .start ∨ inStart = true)
          ∧ s.takeRequest code inStart act = (act s).state.answer code (act s).result (act s).data) := by
  unfold State.takeRequest
  split
  · next h => exact .inl ⟨h, rfl⟩
  · next h =>
    have hc : s.cond = .running := Classical.not_not.mp fun e => h (.inl e)
    have hr : s.hlk.restarting = false := by
      cases g : s.hlk.restarting
      · rfl
      · exact absurd (.inr g) h
    split
    · next g => exact .inr (.inl ⟨hc, hr, g, rfl⟩)
    · next g =>
      have hl : s.hlk.replies.length < 4 := by omega
      split
      · next m => exact .inr (.inr (.inl ⟨hc, hr, hl, m.1, by simpa using m.2, rfl⟩))
      · next m =>
        refine .inr (.inr (.inr ⟨hc, hr, hl, ?_, rfl⟩))
        by_cases e : s.sup.mode = .start
        · refine .inr ?_
          cases i : inStart
          · exact absurd ⟨e, by simp [i]⟩ m
          · rfl
        · exact .inl e

/-- A request that the part takes outside START is judged by its block. -/
theorem State.takeRequest_taken {code : Nat} {inStart : Bool} {act : State → Answer} (hc : s.cond = .running)
    (hr : s.hlk.restarting = false) (hl : s.hlk.replies.length < 4) (hm : s.sup.mode ≠ .start) :
    s.takeRequest code inStart act = (act s).state.answer code (act s).result (act s).data := by
  have h : ¬ 4 ≤ s.hlk.replies.length := by omega
  simp [State.takeRequest, hc, hr, h, hm]

theorem withPort_val (act : PortId → State → Answer) : withPort p.val s act = act p s := by
  simp [withPort, portOf_val]

theorem withPort_above {n : Nat} (h : 15 < n) (act : PortId → State → Answer) : withPort n s act = refuse .badPort s := by
  simp [withPort, portOf_none h]

/-- A message: nothing where the receiver does not listen or the part does not run; otherwise the message acts (R64, R1). -/
theorem State.heard_cases (act : State → State) :
    ((s.cond ≠ .running ∨ (s.port p).rx = .gated) ∧ s.heard p act = s)
      ∨ (s.cond = .running ∧ (s.port p).rx ≠ .gated
          ∧ s.heard p act = act s) := by
  by_cases hc : s.cond = .running <;> by_cases hr : (s.port p).rx = .gated <;>
    simp [State.heard, Port.listens, hc, hr]

/-- Every command ends in a next state. -/
theorem exec_next (c : Instr) (s : State) : ∃ t, exec c s = .next t := by
  cases c <;> exact ⟨_, rfl⟩

end Sys2Proof.Machine
end

