-- ==== Sys2Proof/Laws/Arbiter.lean ====
section
/-! SUPPORT. The feed-grant arbiter: what its operations touch, what a victim is, and the induction that carries a property through
an arbitration. -/

namespace Sys2Proof.Machine

variable (s : State) (p r : PortId)

/-! ### What the arbiter touches: the ports, the queue, the grant set and the order counter -/

/-- Everything but the ports and the arbiter's own state is as it was. -/
def State.FeedOnly (s t : State) : Prop := t = { s with ports := t.ports, fga := t.fga }

theorem State.FeedOnly.refl : s.FeedOnly s := rfl

theorem State.FeedOnly.trans {s t u : State} (h : s.FeedOnly t) (g : t.FeedOnly u) : s.FeedOnly u := by
  unfold State.FeedOnly at *
  rw [g, h]

theorem State.FeedOnly.cond {s t : State} (h : s.FeedOnly t) : t.cond = s.cond := by rw [h]
theorem State.FeedOnly.pins {s t : State} (h : s.FeedOnly t) : t.pins = s.pins := by rw [h]
theorem State.FeedOnly.straps {s t : State} (h : s.FeedOnly t) : t.straps = s.straps := by rw [h]
theorem State.FeedOnly.sup {s t : State} (h : s.FeedOnly t) : t.sup = s.sup := by rw [h]
theorem State.FeedOnly.cac {s t : State} (h : s.FeedOnly t) : t.cac = s.cac := by rw [h]
theorem State.FeedOnly.wakes {s t : State} (h : s.FeedOnly t) : t.wakes = s.wakes := by rw [h]
theorem State.FeedOnly.pdi {s t : State} (h : s.FeedOnly t) : t.pdi = s.pdi := by rw [h]
theorem State.FeedOnly.nvs {s t : State} (h : s.FeedOnly t) : t.nvs = s.nvs := by rw [h]
theorem State.FeedOnly.hlk {s t : State} (h : s.FeedOnly t) : t.hlk = s.hlk := by rw [h]
theorem State.FeedOnly.freeUses {s t : State} (h : s.FeedOnly t) : t.freeUses = s.freeUses := by rw [h]
theorem State.FeedOnly.pending {s t : State} (h : s.FeedOnly t) : t.pending = s.pending := by rw [h]

theorem State.FeedOnly.eff {s t : State} (h : s.FeedOnly t) : t.eff = s.eff := by
  simp only [State.eff, h.sup, h.cac, h.hlk]

theorem State.feedOnly_forPorts {act : PortId → State → State} (h : ∀ (p : PortId) (s : State), s.FeedOnly (act p s)) (ps : List PortId) :
    s.FeedOnly (s.forPorts ps act) := by
  induction ps generalizing s with
  | nil => exact .refl s
  | cons p ps ih => exact (h p s).trans (ih (act p s))

/-- A property that each action keeps, every action of a list of ports keeps. -/
theorem State.forPorts_induct {P : State → Prop} {act : PortId → State → State} (ps : List PortId)
    (h : ∀ p ∈ ps, ∀ s, P s → P (act p s)) (base : P s) : P (s.forPorts ps act) := by
  induction ps generalizing s with
  | nil => exact base
  | cons p ps ih => exact ih (act p s) (fun q hq => h q (.tail _ hq)) (h p (.head _) s base)

theorem State.feedOnly_setPort (q : Port) : s.FeedOnly (s.setPort p q) := rfl

theorem State.feedOnly_enter (st : PortState) : s.FeedOnly (s.enter p st) := rfl

theorem State.feedOnly_startBurst : s.FeedOnly (s.startBurst p) := rfl

theorem State.feedOnly_endGrant : s.FeedOnly (s.endGrant p) := rfl

theorem State.feedOnly_releaseTo (st : PortState) : s.FeedOnly (s.releaseTo p st) := rfl

theorem State.feedOnly_withdrawTo (st : PortState) : s.FeedOnly (s.withdrawTo p st) := rfl

theorem State.feedOnly_grant (e : QueueEntry) : s.FeedOnly (s.grant e) := rfl

theorem State.feedOnly_mapPorts (f : PortId → Port → Port) : s.FeedOnly (s.mapPorts f) := by
  simp only [State.FeedOnly, State.mapPorts]

theorem State.feedOnly_joinQueue : s.FeedOnly (s.joinQueue p) := by
  unfold State.joinQueue
  split <;> rfl

theorem State.feedOnly_requeue : s.FeedOnly (s.requeue p) := (s.feedOnly_endGrant p).trans (State.feedOnly_joinQueue _ p)

/-! ### The queue and the grant set under an update -/

/-- A port joins the queue: everything that can come of it (R105). -/
theorem State.joinQueue_cases :
    ((s.port p).level = none ∧ s.joinQueue p = s)
      ∨ ∃ l, (s.port p).level = some l
        ∧ s.joinQueue p =
          State.enter p .queued
            { s with fga := Fga.putEntry ⟨p, l, s.fga.nextNumber, s.sup.partTime⟩ { s.fga with counter := s.fga.nextNumber } } := by
  unfold State.joinQueue
  split
  · next l h => exact .inr ⟨l, h, rfl⟩
  · next h => exact .inl ⟨h, rfl⟩

theorem State.port_joinQueue_ne (h : r ≠ p) : (s.joinQueue p).port r = s.port r := by
  rcases s.joinQueue_cases p with ⟨-, g⟩ | ⟨l, -, g⟩ <;> rw [g]
  rw [State.port_enter, if_neg h]
  rfl

theorem State.port_endGrant_self :
    (s.endGrant p).port p = ({ s.port p with switch := (s.port p).switch.openUp } : Port).ask (.feedState false) := by
  rw [State.endGrant, State.port_ask_self, State.port_modPort_self]
  rfl

theorem State.port_endGrant_ne (h : r ≠ p) : (s.endGrant p).port r = s.port r := by
  rw [State.endGrant, State.port_ask, if_neg h, State.port_modPort_ne _ _ _ _ h]
  rfl

theorem State.port_requeue_ne (h : r ≠ p) : (s.requeue p).port r = s.port r := by
  rw [State.requeue, State.port_joinQueue_ne _ _ _ h, s.port_endGrant_ne p r h]

theorem State.port_grant_ne (e : QueueEntry) (h : r ≠ e.port) : (s.grant e).port r = s.port r := by
  rw [State.grant, State.port_ask, if_neg h, State.port_enter, if_neg h, State.port_modPort_ne _ _ _ _ h]
  rfl

/-- What a grant makes of the port's record (R113, R126). -/
theorem State.port_grant_self (e : QueueEntry) :
    (s.grant e).port e.port =
      (({ s.port e.port with switch := (s.port e.port).switch.close } : Port).enter .fed).ask (.feedState true) := by
  rw [State.grant, State.port_ask_self, State.port_enter_self, State.port_modPort_self]
  rfl

theorem mem_dropEntry {g : Fga} {e : QueueEntry} : e ∈ (g.dropEntry p).queue ↔ e ∈ g.queue ∧ e.port ≠ p := by
  simp [Fga.dropEntry]

theorem mem_dropGrant {g : Fga} {e : Grant} : e ∈ (g.dropGrant p).grants ↔ e ∈ g.grants ∧ e.port ≠ p := by
  simp [Fga.dropGrant]

theorem mem_putEntry {g : Fga} {e x : QueueEntry} : x ∈ (g.putEntry e).queue ↔ x = e ∨ x ∈ g.queue := mem_placeBy

theorem mem_putGrant {g : Fga} {e x : Grant} : x ∈ (g.putGrant e).grants ↔ x = e ∨ x ∈ g.grants := mem_placeBy

/-- A release and a new place in the queue: no entry that stood there is lost. -/
theorem State.mem_requeue_queue {e : QueueEntry} (h : e ∈ s.fga.queue) : e ∈ (s.requeue p).fga.queue := by
  rw [State.requeue]
  rcases (s.endGrant p).joinQueue_cases p with ⟨-, g⟩ | ⟨l, -, g⟩ <;> rw [g]
  · exact h
  · exact mem_putEntry.mpr (.inr h)

/-- A release and a new place in the queue: no grant is made. -/
theorem State.mem_requeue_grants {g : Grant} (h : g ∈ (s.requeue p).fga.grants) : g ∈ s.fga.grants ∧ g.port ≠ p := by
  rw [State.requeue] at h
  rcases (s.endGrant p).joinQueue_cases p with ⟨-, e⟩ | ⟨l, -, e⟩ <;> rw [e] at h
  · exact (mem_dropGrant p).mp h
  · exact (mem_dropGrant p).mp h

/-- The host hold is no concern of a release, a new place in the queue or a grant. -/
theorem State.hold_requeue : ((s.requeue p).port r).hold = (s.port r).hold := by
  by_cases h : r = p
  · subst h
    rw [State.requeue]
    rcases (s.endGrant r).joinQueue_cases r with ⟨-, g⟩ | ⟨l, -, g⟩ <;> rw [g]
    · rw [State.port_endGrant_self]; simp
    · rw [State.port_enter_self, Port.enter_hold]
      change ((s.endGrant r).port r).hold = _
      rw [State.port_endGrant_self]; simp
  · rw [s.port_requeue_ne p r h]

theorem State.hold_grant (e : QueueEntry) : ((s.grant e).port r).hold = (s.port r).hold := by
  by_cases h : r = e.port
  · subst h; rw [State.port_grant_self]; simp
  · rw [s.port_grant_ne r e h]

/-! ### Victims (R112) -/

/-- The youngest grant at a level is a grant at that level, and none is younger. -/
theorem Fga.youngestAt_some {g : Fga} {l : Level} {v : Grant} (h : g.youngestAt l = some v) :
    v ∈ g.grants ∧ v.level = l ∧ ∀ e ∈ g.grants, e.level = l → e.number ≤ v.number := by
  have key : ∀ (xs : List Grant) (b : Option Grant),
      (xs.foldl (fun best e =>
        match best with
        | none => some e
        | some b => if b.number < e.number then some e else some b) b) = some v →
      (v ∈ xs ∨ b = some v) ∧ (∀ e ∈ xs, e.number ≤ v.number) ∧ ∀ e, b = some e → e.number ≤ v.number := by
    intro xs
    induction xs with
    | nil =>
      intro b hb
      exact ⟨.inr hb, by simp, fun e he => by rw [List.foldl_nil] at hb; rw [hb] at he; cases he; exact Nat.le_refl _⟩
    | cons x xs ih =>
      intro b hb
      rw [List.foldl_cons] at hb
      obtain ⟨mem, all, start⟩ := ih _ hb
      cases b with
      | none =>
        have hx := start x rfl
        refine ⟨?_, ?_, by simp⟩
        · rcases mem with m | m
          · exact .inl (.tail _ m)
          · cases m; exact .inl (.head _)
        · intro e he
          rcases List.mem_cons.mp he with rfl | he
          · exact hx
          · exact all e he
      | some b =>
        dsimp only at start mem
        by_cases c : b.number < x.number
        · rw [if_pos c] at start mem
          have hx := start x rfl
          refine ⟨?_, ?_, fun e he => by cases he; omega⟩
          · rcases mem with m | m
            · exact .inl (.tail _ m)
            · cases m; exact .inl (.head _)
          · intro e he
            rcases List.mem_cons.mp he with rfl | he
            · exact hx
            · exact all e he
        · rw [if_neg c] at start mem
          have hb := start b rfl
          refine ⟨?_, ?_, fun e he => by cases he; exact hb⟩
          · rcases mem with m | m
            · exact .inl (.tail _ m)
            · exact .inr m
          · intro e he
            rcases List.mem_cons.mp he with rfl | he
            · omega
            · exact all e he
  obtain ⟨mem, all, -⟩ := key _ _ h
  have hv : v ∈ g.grants.filter fun e => e.level == l := mem.resolve_right (by simp)
  rw [List.mem_filter] at hv
  exact ⟨hv.1, by simpa using hv.2, fun e he hl => all e (List.mem_filter.mpr ⟨he, by simpa using hl⟩)⟩

/-- A victim of a preemption is a grant at P3, P4 or P5. -/
theorem Fga.victim_some {g : Fga} {v : Grant} (h : g.victim = some v) :
    v ∈ g.grants ∧ (v.level = .p3 ∨ v.level = .p4 ∨ v.level = .p5) := by
  unfold Fga.victim at h
  cases h5 : g.youngestAt .p5 with
  | some x =>
    rw [h5] at h; cases h
    obtain ⟨a, b, -⟩ := Fga.youngestAt_some h5
    exact ⟨a, .inr (.inr b)⟩
  | none =>
    rw [h5] at h
    cases h4 : g.youngestAt .p4 with
    | some x =>
      rw [h4] at h; cases h
      obtain ⟨a, b, -⟩ := Fga.youngestAt_some h4
      exact ⟨a, .inr (.inl b)⟩
    | none =>
      rw [h4] at h
      obtain ⟨a, b, -⟩ := Fga.youngestAt_some (by simpa using h)
      exact ⟨a, .inl b⟩

/-- The grant released for a lowered ceiling is a grant. -/
theorem Fga.lowestGrant_some {g : Fga} {v : Grant} (h : g.lowestGrant = some v) : v ∈ g.grants := by
  unfold Fga.lowestGrant at h
  cases hv : g.victim with
  | some x => rw [hv] at h; cases h; exact (Fga.victim_some hv).1
  | none =>
    rw [hv] at h
    cases h2 : g.youngestAt .p2 with
    | some x => rw [h2] at h; cases h; exact (Fga.youngestAt_some h2).1
    | none => rw [h2] at h; exact (Fga.youngestAt_some (by simpa using h)).1

/-! ### Arbitration (R110 to R113) -/

/-- An entry that stands in the queue and may be granted now (R110). -/
def State.Grantable (s : State) (e : QueueEntry) : Prop :=
  e ∈ s.fga.queue ∧ eligible s.eff s.cac.credit e.level (s.port e.port).hold = true

theorem State.Grantable.requeue {s : State} {e : QueueEntry} (h : s.Grantable e) (p : PortId) : (s.requeue p).Grantable e := by
  refine ⟨s.mem_requeue_queue p h.1, ?_⟩
  rw [s.hold_requeue p e.port, (s.feedOnly_requeue p).eff, (s.feedOnly_requeue p).cac]
  exact h.2

/-- What a property must withstand to be carried through an arbitration: a grant to an entry that is eligible and fits, and the
release of a victim at P3 to P5 for a P1 entry that is eligible and does not fit. -/
structure State.ArbitrationKeeps (P : State → Prop) : Prop where
  granted : ∀ s e, P s → s.Grantable e → s.fits e.port = true → P (s.grant e)
  released : ∀ s e v, P s → s.Grantable e → e.level = .p1 → s.fits e.port = false → s.fga.victim = some v →
    P (s.requeue v.port)

theorem State.preempt_induct {P : State → Prop} (keeps : State.ArbitrationKeeps P) {e : QueueEntry} (top : e.level = .p1) :
    ∀ (n : Nat) (s : State), P s → s.Grantable e → P (s.preempt e.port n) ∧ (s.preempt e.port n).Grantable e
  | 0, s, base, may => ⟨base, may⟩
  | n + 1, s, base, may => by
    unfold State.preempt
    split
    · exact ⟨base, may⟩
    · next no =>
      split
      · next v hv =>
        have f : s.fits e.port = false := by simpa using no
        exact State.preempt_induct keeps top n _ (keeps.released s e v base may top f hv) (may.requeue v.port)
      · exact ⟨base, may⟩

theorem State.scan_induct {P : State → Prop} (keeps : State.ArbitrationKeeps P) :
    ∀ (fuel k : Nat) (s : State), P s → P (s.scan fuel k)
  | 0, _, _, base => base
  | fuel + 1, k, s, base => by
    unfold State.scan
    split
    · exact base
    · next e he =>
      have hmem : e ∈ s.fga.queue := List.mem_of_getElem? he
      split
      · exact State.scan_induct keeps fuel (k + 1) s base
      · next ok =>
        have may : s.Grantable e := ⟨hmem, by simpa using ok⟩
        split
        · next f => exact State.scan_induct keeps fuel k _ (keeps.granted s e base may f)
        · split
          · next top =>
            obtain ⟨h, g⟩ := State.preempt_induct keeps top s.fga.grants.length s base may
            dsimp only
            split
            · next f => exact State.scan_induct keeps fuel k _ (keeps.granted _ e h g f)
            · exact h
          · exact base

/-- A property that a grant and a victim's release keep, an arbitration keeps. -/
theorem State.arbitrate_induct {P : State → Prop} (keeps : State.ArbitrationKeeps P) (base : P s) : P s.arbitrate :=
  State.scan_induct keeps _ _ s base

theorem State.feedOnly_arbitrate : s.FeedOnly s.arbitrate :=
  s.arbitrate_induct (P := s.FeedOnly)
    { granted := fun t e h _ _ => h.trans (t.feedOnly_grant e)
      released := fun t _ v h _ _ _ _ => h.trans (t.feedOnly_requeue v.port) }
    (.refl s)

theorem State.hold_arbitrate : (s.arbitrate.port p).hold = (s.port p).hold :=
  s.arbitrate_induct (P := fun t => (t.port p).hold = (s.port p).hold)
    { granted := fun t e h _ _ => (t.hold_grant p e).trans h
      released := fun t _ v h _ _ _ _ => (t.hold_requeue v.port p).trans h }
    rfl

/-- A grant at P1 or P2 outlives every arbitration (R112). -/
theorem State.arbitrate_keeps_high {g : Grant} (mem : g ∈ s.fga.grants) (high : g.level = .p1 ∨ g.level = .p2)
    (alone : ∀ e ∈ s.fga.queue, e.port ≠ g.port) (single : ∀ x ∈ s.fga.grants, x.port = g.port → x = g) :
    g ∈ s.arbitrate.fga.grants := by
  have : (fun t : State => g ∈ t.fga.grants ∧ (∀ e ∈ t.fga.queue, e.port ≠ g.port)
      ∧ ∀ x ∈ t.fga.grants, x.port = g.port → x = g) s.arbitrate := by
    refine s.arbitrate_induct (P := fun t : State => g ∈ t.fga.grants ∧ (∀ e ∈ t.fga.queue, e.port ≠ g.port)
      ∧ ∀ x ∈ t.fga.grants, x.port = g.port → x = g) { granted := ?_, released := ?_ } ⟨mem, alone, single⟩
    · rintro t e ⟨m, a, o⟩ may -
      have ne := a e may.1
      rw [State.grant_fga]
      refine ⟨mem_putGrant.mpr (.inr m), fun x hx => a x ((mem_dropEntry e.port).mp hx).1, fun x hx hp => ?_⟩
      rcases mem_putGrant.mp hx with rfl | hx
      · exact absurd hp ne
      · exact o x hx hp
    · rintro t e v ⟨m, a, o⟩ - - - hv
      obtain ⟨vm, vl⟩ := Fga.victim_some hv
      have ne : v.port ≠ g.port := by
        intro hp
        have := o v vm hp
        subst this
        rcases high with h | h <;> rcases vl with l | l | l <;> rw [h] at l <;> cases l
      have key : (t.requeue v.port).fga.grants = (t.fga.dropGrant v.port).grants := by
        rw [State.requeue]
        rcases (t.endGrant v.port).joinQueue_cases v.port with ⟨-, h⟩ | ⟨l, -, h⟩ <;> rw [h] <;> rfl
      refine ⟨?_, fun x hx => ?_, fun x hx => o x (t.mem_requeue_grants v.port hx).1⟩
      · rw [key]; exact (mem_dropGrant v.port).mpr ⟨m, Ne.symm ne⟩
      · rw [State.requeue] at hx
        rcases (t.endGrant v.port).joinQueue_cases v.port with ⟨-, h⟩ | ⟨l, -, h⟩ <;> rw [h] at hx
        · exact a x hx
        · rcases mem_putEntry.mp hx with rfl | hx
          · exact ne
          · exact a x hx
  exact this.1

/-! ### The operations over an arbitration -/

theorem State.feedOnly_releaseAndArbitrate (st : PortState) : s.FeedOnly (s.releaseAndArbitrate p st) :=
  (s.feedOnly_releaseTo p st).trans (State.feedOnly_arbitrate _)

/-- The feed of a port ends (R113): everything that can come of it. -/
theorem State.endFeed_cases (st : PortState) :
    ((s.port p).state = .fed ∧ s.endFeed p st = s.releaseAndArbitrate p st)
      ∨ ((s.port p).state = .queued ∧ s.endFeed p st = s.withdrawTo p st)
      ∨ ((s.port p).state ≠ .fed ∧ (s.port p).state ≠ .queued ∧ s.endFeed p st = s) := by
  unfold State.endFeed
  split
  · next h => exact .inl ⟨h, rfl⟩
  · next h => exact .inr (.inl ⟨h, rfl⟩)
  · next h g => exact .inr (.inr ⟨h, g, rfl⟩)

theorem State.feedOnly_endFeed (st : PortState) : s.FeedOnly (s.endFeed p st) := by
  rcases s.endFeed_cases p st with ⟨-, h⟩ | ⟨-, h⟩ | ⟨-, -, h⟩ <;> rw [h]
  · exact s.feedOnly_releaseAndArbitrate p st
  · exact s.feedOnly_withdrawTo p st
  · exact .refl s

theorem State.feedOnly_relevelOne : s.FeedOnly (s.relevelOne p).1 := by
  unfold State.relevelOne
  split
  · split
    · split
      · exact .refl s
      · dsimp only
        split <;> rfl
    · exact .refl s
  · split
    · split
      · exact .refl s
      · dsimp only
        split
        · rfl
        · split
          · exact State.FeedOnly.trans (t := { s with fga := _ }) rfl (State.feedOnly_requeue _ p)
          · rfl
    · exact .refl s
  · exact .refl s

theorem State.feedOnly_relevel : s.FeedOnly (s.relevel p) := by
  unfold State.relevel
  dsimp only
  split
  · exact (s.feedOnly_relevelOne p).trans (State.feedOnly_arbitrate _)
  · exact s.feedOnly_relevelOne p

/-- A feed request (R107): everything that can come of it. -/
theorem State.feedRequest_cases :
    (((s.port p).state = .queued ∨ (s.port p).state = .fed) ∧ s.feedRequest p = s.relevel p)
      ∨ ((s.port p).state ≠ .queued ∧ (s.port p).state ≠ .fed
          ∧ ((s.port p).hasCause s.sup.mode = true ∧ s.admitted p = true) ∧ s.feedRequest p = (s.joinQueue p).arbitrate)
      ∨ ((s.port p).state ≠ .queued ∧ (s.port p).state ≠ .fed
          ∧ ¬ ((s.port p).hasCause s.sup.mode = true ∧ s.admitted p = true) ∧ s.feedRequest p = s.enter p .awake) := by
  unfold State.feedRequest
  split
  · next h => exact .inl ⟨.inl h, rfl⟩
  · next h => exact .inl ⟨.inr h, rfl⟩
  · next h g =>
    split
    · next c => exact .inr (.inl ⟨h, g, c, rfl⟩)
    · next c => exact .inr (.inr ⟨h, g, c, rfl⟩)

theorem State.feedOnly_feedRequest : s.FeedOnly (s.feedRequest p) := by
  rcases s.feedRequest_cases p with ⟨-, h⟩ | ⟨-, -, -, h⟩ | ⟨-, -, -, h⟩ <;> rw [h]
  · exact s.feedOnly_relevel p
  · exact (s.feedOnly_joinQueue p).trans (State.feedOnly_arbitrate _)
  · exact s.feedOnly_enter p .awake

theorem State.feedOnly_endFeedQuietly : s.FeedOnly (s.endFeedQuietly p) := by
  unfold State.endFeedQuietly
  split <;> rfl

theorem State.feedOnly_requeueOnCredit : s.FeedOnly s.requeueOnCredit :=
  s.feedOnly_forPorts (fun p t => t.feedOnly_requeue p) _

theorem State.feedOnly_dropNotAdmitted : s.FeedOnly s.dropNotAdmitted :=
  s.feedOnly_forPorts (fun p t => t.feedOnly_endFeedQuietly p) _

theorem State.feedOnly_worsen : s.FeedOnly s.worsen := by
  have key : s.FeedOnly
      (match s.eff with
        | .conserve => if s.cac.credit ≤ 0 then s.requeueOnCredit else s
        | .reserve => s.dropNotAdmitted
        | .exhausted => s.dropNotAdmitted
        | _ => s) := by
    split
    · split
      · exact s.feedOnly_requeueOnCredit
      · exact .refl s
    · exact s.feedOnly_dropNotAdmitted
    · exact s.feedOnly_dropNotAdmitted
    · exact .refl s
  have both : ∀ (t : State) (b : Bool), s.FeedOnly t → s.FeedOnly (if b then t.arbitrate else t) := by
    intro t b h
    cases b
    · exact h
    · exact h.trans t.feedOnly_arbitrate
  exact both _ _ key

theorem State.feedOnly_creditNotice (n : CreditNotice) : s.FeedOnly (s.creditNotice n) := by
  unfold State.creditNotice
  split
  · exact s.feedOnly_arbitrate
  · split
    · exact s.feedOnly_requeueOnCredit.trans (State.feedOnly_arbitrate _)
    · exact .refl s

theorem State.feedOnly_lowerTo : ∀ (n : Nat) (s : State), s.FeedOnly (s.lowerTo n)
  | 0, s => .refl s
  | n + 1, s => by
    unfold State.lowerTo
    split
    · exact .refl s
    · split
      · exact (s.feedOnly_requeue _).trans (State.feedOnly_lowerTo n _)
      · exact .refl s

theorem State.feedOnly_ceilingsChanged (old : AccountParams) : s.FeedOnly (s.ceilingsChanged old) := by
  unfold State.ceilingsChanged
  dsimp only
  split
  · exact (State.feedOnly_lowerTo _ s).trans (State.feedOnly_arbitrate _)
  · split
    · exact s.feedOnly_arbitrate
    · exact .refl s

theorem State.feedOnly_relevelCleared : s.FeedOnly (s.relevelCleared p).1 := by
  unfold State.relevelCleared
  split
  · exact s.feedOnly_endFeedQuietly p
  · exact s.feedOnly_relevelOne p

theorem State.feedOnly_clearHolds : s.FeedOnly s.clearHolds := by
  have key : ∀ (ps : List PortId) (acc : State × Bool), s.FeedOnly acc.1 → s.FeedOnly (ps.foldl State.relevelCarry acc).1 := by
    intro ps
    induction ps with
    | nil => exact fun _ h => h
    | cons p ps ih => exact fun acc h => ih _ (h.trans (acc.1.feedOnly_relevelCleared p))
  unfold State.clearHolds
  dsimp only
  split
  · exact (key _ _ (s.feedOnly_mapPorts _)).trans (State.feedOnly_arbitrate _)
  · exact key _ _ (s.feedOnly_mapPorts _)

theorem State.feedOnly_powerLost_join : s.FeedOnly ((s.joinQueue p).arbitrate) :=
  (s.feedOnly_joinQueue p).trans (State.feedOnly_arbitrate _)

/-- A new effective stage (R39): everything that can come of it. -/
theorem State.effChanged_cases (old : EffStage) :
    ((s.eff = old ∨ old = .standby ∨ s.eff = .standby) ∧ s.effChanged old = s)
      ∨ (¬ (s.eff = old ∨ old = .standby ∨ s.eff = .standby) ∧ old.severity < s.eff.severity
          ∧ s.effChanged old = s.rescheduleWakes.worsen)
      ∨ (¬ (s.eff = old ∨ old = .standby ∨ s.eff = .standby) ∧ ¬ old.severity < s.eff.severity
          ∧ s.effChanged old = s.rescheduleWakes.arbitrate) := by
  unfold State.effChanged
  split
  · next h => exact .inl ⟨h, rfl⟩
  · next h =>
    split
    · next g => exact .inr (.inl ⟨h, g, rfl⟩)
    · next g => exact .inr (.inr ⟨h, g, rfl⟩)

/-- Rescheduling touches the wake list alone (R88). -/
theorem State.rescheduleWakes_frame : s.rescheduleWakes = { s with wakes := s.rescheduleWakes.wakes } := by
  have key : ∀ (ps : List PortId) (t : State), t = { s with wakes := t.wakes } →
      t.forPorts ps State.rescheduleWake = { s with wakes := (t.forPorts ps State.rescheduleWake).wakes } := by
    intro ps
    induction ps with
    | nil => exact fun _ h => h
    | cons p ps ih =>
      intro t h
      refine ih (t.rescheduleWake p) ?_
      rw [h]
      unfold State.rescheduleWake
      repeat' split
      all_goals rfl
  exact key allPorts s rfl

/-- Two hand-overs that reach the arbiter together: one of the two orders is taken (R115, R121). -/
theorem State.eitherOrder_cases (f g : State → State) :
    s.eitherOrder f g = g (f s) ∨ s.eitherOrder f g = { g (f s) with freeUses := s.freeUses + 1 }
      ∨ s.eitherOrder f g = { f (g s) with freeUses := s.freeUses + 1 } := by
  unfold State.eitherOrder
  dsimp only
  split
  · exact .inl rfl
  · split
    · exact .inr (.inl rfl)
    · exact .inr (.inr rfl)

/-! ### What these operations leave, field by field -/

@[simp] theorem State.arbitrate_cond : (s.arbitrate).cond = s.cond := s.feedOnly_arbitrate.cond
@[simp] theorem State.arbitrate_pins : (s.arbitrate).pins = s.pins := s.feedOnly_arbitrate.pins
@[simp] theorem State.arbitrate_straps : (s.arbitrate).straps = s.straps := s.feedOnly_arbitrate.straps
@[simp] theorem State.arbitrate_sup : (s.arbitrate).sup = s.sup := s.feedOnly_arbitrate.sup
@[simp] theorem State.arbitrate_cac : (s.arbitrate).cac = s.cac := s.feedOnly_arbitrate.cac
@[simp] theorem State.arbitrate_wakes : (s.arbitrate).wakes = s.wakes := s.feedOnly_arbitrate.wakes
@[simp] theorem State.arbitrate_pdi : (s.arbitrate).pdi = s.pdi := s.feedOnly_arbitrate.pdi
@[simp] theorem State.arbitrate_nvs : (s.arbitrate).nvs = s.nvs := s.feedOnly_arbitrate.nvs
@[simp] theorem State.arbitrate_hlk : (s.arbitrate).hlk = s.hlk := s.feedOnly_arbitrate.hlk
@[simp] theorem State.arbitrate_freeUses : (s.arbitrate).freeUses = s.freeUses := s.feedOnly_arbitrate.freeUses
@[simp] theorem State.arbitrate_pending : (s.arbitrate).pending = s.pending := s.feedOnly_arbitrate.pending
@[simp] theorem State.arbitrate_eff : (s.arbitrate).eff = s.eff := s.feedOnly_arbitrate.eff

@[simp] theorem State.releaseAndArbitrate_cond (st : PortState) : (s.releaseAndArbitrate p st).cond = s.cond := (s.feedOnly_releaseAndArbitrate p st).cond
@[simp] theorem State.releaseAndArbitrate_pins (st : PortState) : (s.releaseAndArbitrate p st).pins = s.pins := (s.feedOnly_releaseAndArbitrate p st).pins
@[simp] theorem State.releaseAndArbitrate_straps (st : PortState) : (s.releaseAndArbitrate p st).straps = s.straps := (s.feedOnly_releaseAndArbitrate p st).straps
@[simp] theorem State.releaseAndArbitrate_sup (st : PortState) : (s.releaseAndArbitrate p st).sup = s.sup := (s.feedOnly_releaseAndArbitrate p st).sup
@[simp] theorem State.releaseAndArbitrate_cac (st : PortState) : (s.releaseAndArbitrate p st).cac = s.cac := (s.feedOnly_releaseAndArbitrate p st).cac
@[simp] theorem State.releaseAndArbitrate_wakes (st : PortState) : (s.releaseAndArbitrate p st).wakes = s.wakes := (s.feedOnly_releaseAndArbitrate p st).wakes
@[simp] theorem State.releaseAndArbitrate_pdi (st : PortState) : (s.releaseAndArbitrate p st).pdi = s.pdi := (s.feedOnly_releaseAndArbitrate p st).pdi
@[simp] theorem State.releaseAndArbitrate_nvs (st : PortState) : (s.releaseAndArbitrate p st).nvs = s.nvs := (s.feedOnly_releaseAndArbitrate p st).nvs
@[simp] theorem State.releaseAndArbitrate_hlk (st : PortState) : (s.releaseAndArbitrate p st).hlk = s.hlk := (s.feedOnly_releaseAndArbitrate p st).hlk
@[simp] theorem State.releaseAndArbitrate_freeUses (st : PortState) : (s.releaseAndArbitrate p st).freeUses = s.freeUses := (s.feedOnly_releaseAndArbitrate p st).freeUses
@[simp] theorem State.releaseAndArbitrate_pending (st : PortState) : (s.releaseAndArbitrate p st).pending = s.pending := (s.feedOnly_releaseAndArbitrate p st).pending
@[simp] theorem State.releaseAndArbitrate_eff (st : PortState) : (s.releaseAndArbitrate p st).eff = s.eff := (s.feedOnly_releaseAndArbitrate p st).eff

@[simp] theorem State.endFeed_cond (st : PortState) : (s.endFeed p st).cond = s.cond := (s.feedOnly_endFeed p st).cond
@[simp] theorem State.endFeed_pins (st : PortState) : (s.endFeed p st).pins = s.pins := (s.feedOnly_endFeed p st).pins
@[simp] theorem State.endFeed_straps (st : PortState) : (s.endFeed p st).straps = s.straps := (s.feedOnly_endFeed p st).straps
@[simp] theorem State.endFeed_sup (st : PortState) : (s.endFeed p st).sup = s.sup := (s.feedOnly_endFeed p st).sup
@[simp] theorem State.endFeed_cac (st : PortState) : (s.endFeed p st).cac = s.cac := (s.feedOnly_endFeed p st).cac
@[simp] theorem State.endFeed_wakes (st : PortState) : (s.endFeed p st).wakes = s.wakes := (s.feedOnly_endFeed p st).wakes
@[simp] theorem State.endFeed_pdi (st : PortState) : (s.endFeed p st).pdi = s.pdi := (s.feedOnly_endFeed p st).pdi
@[simp] theorem State.endFeed_nvs (st : PortState) : (s.endFeed p st).nvs = s.nvs := (s.feedOnly_endFeed p st).nvs
@[simp] theorem State.endFeed_hlk (st : PortState) : (s.endFeed p st).hlk = s.hlk := (s.feedOnly_endFeed p st).hlk
@[simp] theorem State.endFeed_freeUses (st : PortState) : (s.endFeed p st).freeUses = s.freeUses := (s.feedOnly_endFeed p st).freeUses
@[simp] theorem State.endFeed_pending (st : PortState) : (s.endFeed p st).pending = s.pending := (s.feedOnly_endFeed p st).pending
@[simp] theorem State.endFeed_eff (st : PortState) : (s.endFeed p st).eff = s.eff := (s.feedOnly_endFeed p st).eff

@[simp] theorem State.relevel_cond : (s.relevel p).cond = s.cond := (s.feedOnly_relevel p).cond
@[simp] theorem State.relevel_pins : (s.relevel p).pins = s.pins := (s.feedOnly_relevel p).pins
@[simp] theorem State.relevel_straps : (s.relevel p).straps = s.straps := (s.feedOnly_relevel p).straps
@[simp] theorem State.relevel_sup : (s.relevel p).sup = s.sup := (s.feedOnly_relevel p).sup
@[simp] theorem State.relevel_cac : (s.relevel p).cac = s.cac := (s.feedOnly_relevel p).cac
@[simp] theorem State.relevel_wakes : (s.relevel p).wakes = s.wakes := (s.feedOnly_relevel p).wakes
@[simp] theorem State.relevel_pdi : (s.relevel p).pdi = s.pdi := (s.feedOnly_relevel p).pdi
@[simp] theorem State.relevel_nvs : (s.relevel p).nvs = s.nvs := (s.feedOnly_relevel p).nvs
@[simp] theorem State.relevel_hlk : (s.relevel p).hlk = s.hlk := (s.feedOnly_relevel p).hlk
@[simp] theorem State.relevel_freeUses : (s.relevel p).freeUses = s.freeUses := (s.feedOnly_relevel p).freeUses
@[simp] theorem State.relevel_pending : (s.relevel p).pending = s.pending := (s.feedOnly_relevel p).pending
@[simp] theorem State.relevel_eff : (s.relevel p).eff = s.eff := (s.feedOnly_relevel p).eff

@[simp] theorem State.feedRequest_cond : (s.feedRequest p).cond = s.cond := (s.feedOnly_feedRequest p).cond
@[simp] theorem State.feedRequest_pins : (s.feedRequest p).pins = s.pins := (s.feedOnly_feedRequest p).pins
@[simp] theorem State.feedRequest_straps : (s.feedRequest p).straps = s.straps := (s.feedOnly_feedRequest p).straps
@[simp] theorem State.feedRequest_sup : (s.feedRequest p).sup = s.sup := (s.feedOnly_feedRequest p).sup
@[simp] theorem State.feedRequest_cac : (s.feedRequest p).cac = s.cac := (s.feedOnly_feedRequest p).cac
@[simp] theorem State.feedRequest_wakes : (s.feedRequest p).wakes = s.wakes := (s.feedOnly_feedRequest p).wakes
@[simp] theorem State.feedRequest_pdi : (s.feedRequest p).pdi = s.pdi := (s.feedOnly_feedRequest p).pdi
@[simp] theorem State.feedRequest_nvs : (s.feedRequest p).nvs = s.nvs := (s.feedOnly_feedRequest p).nvs
@[simp] theorem State.feedRequest_hlk : (s.feedRequest p).hlk = s.hlk := (s.feedOnly_feedRequest p).hlk
@[simp] theorem State.feedRequest_freeUses : (s.feedRequest p).freeUses = s.freeUses := (s.feedOnly_feedRequest p).freeUses
@[simp] theorem State.feedRequest_pending : (s.feedRequest p).pending = s.pending := (s.feedOnly_feedRequest p).pending
@[simp] theorem State.feedRequest_eff : (s.feedRequest p).eff = s.eff := (s.feedOnly_feedRequest p).eff

@[simp] theorem State.requeueOnCredit_cond : (s.requeueOnCredit).cond = s.cond := s.feedOnly_requeueOnCredit.cond
@[simp] theorem State.requeueOnCredit_pins : (s.requeueOnCredit).pins = s.pins := s.feedOnly_requeueOnCredit.pins
@[simp] theorem State.requeueOnCredit_straps : (s.requeueOnCredit).straps = s.straps := s.feedOnly_requeueOnCredit.straps
@[simp] theorem State.requeueOnCredit_sup : (s.requeueOnCredit).sup = s.sup := s.feedOnly_requeueOnCredit.sup
@[simp] theorem State.requeueOnCredit_cac : (s.requeueOnCredit).cac = s.cac := s.feedOnly_requeueOnCredit.cac
@[simp] theorem State.requeueOnCredit_wakes : (s.requeueOnCredit).wakes = s.wakes := s.feedOnly_requeueOnCredit.wakes
@[simp] theorem State.requeueOnCredit_pdi : (s.requeueOnCredit).pdi = s.pdi := s.feedOnly_requeueOnCredit.pdi
@[simp] theorem State.requeueOnCredit_nvs : (s.requeueOnCredit).nvs = s.nvs := s.feedOnly_requeueOnCredit.nvs
@[simp] theorem State.requeueOnCredit_hlk : (s.requeueOnCredit).hlk = s.hlk := s.feedOnly_requeueOnCredit.hlk
@[simp] theorem State.requeueOnCredit_freeUses : (s.requeueOnCredit).freeUses = s.freeUses := s.feedOnly_requeueOnCredit.freeUses
@[simp] theorem State.requeueOnCredit_pending : (s.requeueOnCredit).pending = s.pending := s.feedOnly_requeueOnCredit.pending
@[simp] theorem State.requeueOnCredit_eff : (s.requeueOnCredit).eff = s.eff := s.feedOnly_requeueOnCredit.eff

@[simp] theorem State.dropNotAdmitted_cond : (s.dropNotAdmitted).cond = s.cond := s.feedOnly_dropNotAdmitted.cond
@[simp] theorem State.dropNotAdmitted_pins : (s.dropNotAdmitted).pins = s.pins := s.feedOnly_dropNotAdmitted.pins
@[simp] theorem State.dropNotAdmitted_straps : (s.dropNotAdmitted).straps = s.straps := s.feedOnly_dropNotAdmitted.straps
@[simp] theorem State.dropNotAdmitted_sup : (s.dropNotAdmitted).sup = s.sup := s.feedOnly_dropNotAdmitted.sup
@[simp] theorem State.dropNotAdmitted_cac : (s.dropNotAdmitted).cac = s.cac := s.feedOnly_dropNotAdmitted.cac
@[simp] theorem State.dropNotAdmitted_wakes : (s.dropNotAdmitted).wakes = s.wakes := s.feedOnly_dropNotAdmitted.wakes
@[simp] theorem State.dropNotAdmitted_pdi : (s.dropNotAdmitted).pdi = s.pdi := s.feedOnly_dropNotAdmitted.pdi
@[simp] theorem State.dropNotAdmitted_nvs : (s.dropNotAdmitted).nvs = s.nvs := s.feedOnly_dropNotAdmitted.nvs
@[simp] theorem State.dropNotAdmitted_hlk : (s.dropNotAdmitted).hlk = s.hlk := s.feedOnly_dropNotAdmitted.hlk
@[simp] theorem State.dropNotAdmitted_freeUses : (s.dropNotAdmitted).freeUses = s.freeUses := s.feedOnly_dropNotAdmitted.freeUses
@[simp] theorem State.dropNotAdmitted_pending : (s.dropNotAdmitted).pending = s.pending := s.feedOnly_dropNotAdmitted.pending
@[simp] theorem State.dropNotAdmitted_eff : (s.dropNotAdmitted).eff = s.eff := s.feedOnly_dropNotAdmitted.eff

@[simp] theorem State.worsen_cond : (s.worsen).cond = s.cond := s.feedOnly_worsen.cond
@[simp] theorem State.worsen_pins : (s.worsen).pins = s.pins := s.feedOnly_worsen.pins
@[simp] theorem State.worsen_straps : (s.worsen).straps = s.straps := s.feedOnly_worsen.straps
@[simp] theorem State.worsen_sup : (s.worsen).sup = s.sup := s.feedOnly_worsen.sup
@[simp] theorem State.worsen_cac : (s.worsen).cac = s.cac := s.feedOnly_worsen.cac
@[simp] theorem State.worsen_wakes : (s.worsen).wakes = s.wakes := s.feedOnly_worsen.wakes
@[simp] theorem State.worsen_pdi : (s.worsen).pdi = s.pdi := s.feedOnly_worsen.pdi
@[simp] theorem State.worsen_nvs : (s.worsen).nvs = s.nvs := s.feedOnly_worsen.nvs
@[simp] theorem State.worsen_hlk : (s.worsen).hlk = s.hlk := s.feedOnly_worsen.hlk
@[simp] theorem State.worsen_freeUses : (s.worsen).freeUses = s.freeUses := s.feedOnly_worsen.freeUses
@[simp] theorem State.worsen_pending : (s.worsen).pending = s.pending := s.feedOnly_worsen.pending
@[simp] theorem State.worsen_eff : (s.worsen).eff = s.eff := s.feedOnly_worsen.eff

@[simp] theorem State.creditNotice_cond (n : CreditNotice) : (s.creditNotice n).cond = s.cond := (s.feedOnly_creditNotice n).cond
@[simp] theorem State.creditNotice_pins (n : CreditNotice) : (s.creditNotice n).pins = s.pins := (s.feedOnly_creditNotice n).pins
@[simp] theorem State.creditNotice_straps (n : CreditNotice) : (s.creditNotice n).straps = s.straps := (s.feedOnly_creditNotice n).straps
@[simp] theorem State.creditNotice_sup (n : CreditNotice) : (s.creditNotice n).sup = s.sup := (s.feedOnly_creditNotice n).sup
@[simp] theorem State.creditNotice_cac (n : CreditNotice) : (s.creditNotice n).cac = s.cac := (s.feedOnly_creditNotice n).cac
@[simp] theorem State.creditNotice_wakes (n : CreditNotice) : (s.creditNotice n).wakes = s.wakes := (s.feedOnly_creditNotice n).wakes
@[simp] theorem State.creditNotice_pdi (n : CreditNotice) : (s.creditNotice n).pdi = s.pdi := (s.feedOnly_creditNotice n).pdi
@[simp] theorem State.creditNotice_nvs (n : CreditNotice) : (s.creditNotice n).nvs = s.nvs := (s.feedOnly_creditNotice n).nvs
@[simp] theorem State.creditNotice_hlk (n : CreditNotice) : (s.creditNotice n).hlk = s.hlk := (s.feedOnly_creditNotice n).hlk
@[simp] theorem State.creditNotice_freeUses (n : CreditNotice) : (s.creditNotice n).freeUses = s.freeUses := (s.feedOnly_creditNotice n).freeUses
@[simp] theorem State.creditNotice_pending (n : CreditNotice) : (s.creditNotice n).pending = s.pending := (s.feedOnly_creditNotice n).pending
@[simp] theorem State.creditNotice_eff (n : CreditNotice) : (s.creditNotice n).eff = s.eff := (s.feedOnly_creditNotice n).eff

@[simp] theorem State.ceilingsChanged_cond (old : AccountParams) : (s.ceilingsChanged old).cond = s.cond := (s.feedOnly_ceilingsChanged old).cond
@[simp] theorem State.ceilingsChanged_pins (old : AccountParams) : (s.ceilingsChanged old).pins = s.pins := (s.feedOnly_ceilingsChanged old).pins
@[simp] theorem State.ceilingsChanged_straps (old : AccountParams) : (s.ceilingsChanged old).straps = s.straps := (s.feedOnly_ceilingsChanged old).straps
@[simp] theorem State.ceilingsChanged_sup (old : AccountParams) : (s.ceilingsChanged old).sup = s.sup := (s.feedOnly_ceilingsChanged old).sup
@[simp] theorem State.ceilingsChanged_cac (old : AccountParams) : (s.ceilingsChanged old).cac = s.cac := (s.feedOnly_ceilingsChanged old).cac
@[simp] theorem State.ceilingsChanged_wakes (old : AccountParams) : (s.ceilingsChanged old).wakes = s.wakes := (s.feedOnly_ceilingsChanged old).wakes
@[simp] theorem State.ceilingsChanged_pdi (old : AccountParams) : (s.ceilingsChanged old).pdi = s.pdi := (s.feedOnly_ceilingsChanged old).pdi
@[simp] theorem State.ceilingsChanged_nvs (old : AccountParams) : (s.ceilingsChanged old).nvs = s.nvs := (s.feedOnly_ceilingsChanged old).nvs
@[simp] theorem State.ceilingsChanged_hlk (old : AccountParams) : (s.ceilingsChanged old).hlk = s.hlk := (s.feedOnly_ceilingsChanged old).hlk
@[simp] theorem State.ceilingsChanged_freeUses (old : AccountParams) : (s.ceilingsChanged old).freeUses = s.freeUses := (s.feedOnly_ceilingsChanged old).freeUses
@[simp] theorem State.ceilingsChanged_pending (old : AccountParams) : (s.ceilingsChanged old).pending = s.pending := (s.feedOnly_ceilingsChanged old).pending
@[simp] theorem State.ceilingsChanged_eff (old : AccountParams) : (s.ceilingsChanged old).eff = s.eff := (s.feedOnly_ceilingsChanged old).eff

@[simp] theorem State.clearHolds_cond : (s.clearHolds).cond = s.cond := s.feedOnly_clearHolds.cond
@[simp] theorem State.clearHolds_pins : (s.clearHolds).pins = s.pins := s.feedOnly_clearHolds.pins
@[simp] theorem State.clearHolds_straps : (s.clearHolds).straps = s.straps := s.feedOnly_clearHolds.straps
@[simp] theorem State.clearHolds_sup : (s.clearHolds).sup = s.sup := s.feedOnly_clearHolds.sup
@[simp] theorem State.clearHolds_cac : (s.clearHolds).cac = s.cac := s.feedOnly_clearHolds.cac
@[simp] theorem State.clearHolds_wakes : (s.clearHolds).wakes = s.wakes := s.feedOnly_clearHolds.wakes
@[simp] theorem State.clearHolds_pdi : (s.clearHolds).pdi = s.pdi := s.feedOnly_clearHolds.pdi
@[simp] theorem State.clearHolds_nvs : (s.clearHolds).nvs = s.nvs := s.feedOnly_clearHolds.nvs
@[simp] theorem State.clearHolds_hlk : (s.clearHolds).hlk = s.hlk := s.feedOnly_clearHolds.hlk
@[simp] theorem State.clearHolds_freeUses : (s.clearHolds).freeUses = s.freeUses := s.feedOnly_clearHolds.freeUses
@[simp] theorem State.clearHolds_pending : (s.clearHolds).pending = s.pending := s.feedOnly_clearHolds.pending
@[simp] theorem State.clearHolds_eff : (s.clearHolds).eff = s.eff := s.feedOnly_clearHolds.eff

@[simp] theorem State.rescheduleWakes_cond : s.rescheduleWakes.cond = s.cond := by rw [State.rescheduleWakes_frame]
@[simp] theorem State.rescheduleWakes_pins : s.rescheduleWakes.pins = s.pins := by rw [State.rescheduleWakes_frame]
@[simp] theorem State.rescheduleWakes_straps : s.rescheduleWakes.straps = s.straps := by rw [State.rescheduleWakes_frame]
@[simp] theorem State.rescheduleWakes_sup : s.rescheduleWakes.sup = s.sup := by rw [State.rescheduleWakes_frame]
@[simp] theorem State.rescheduleWakes_cac : s.rescheduleWakes.cac = s.cac := by rw [State.rescheduleWakes_frame]
@[simp] theorem State.rescheduleWakes_pdi : s.rescheduleWakes.pdi = s.pdi := by rw [State.rescheduleWakes_frame]
@[simp] theorem State.rescheduleWakes_nvs : s.rescheduleWakes.nvs = s.nvs := by rw [State.rescheduleWakes_frame]
@[simp] theorem State.rescheduleWakes_hlk : s.rescheduleWakes.hlk = s.hlk := by rw [State.rescheduleWakes_frame]
@[simp] theorem State.rescheduleWakes_freeUses : s.rescheduleWakes.freeUses = s.freeUses := by rw [State.rescheduleWakes_frame]
@[simp] theorem State.rescheduleWakes_pending : s.rescheduleWakes.pending = s.pending := by rw [State.rescheduleWakes_frame]
@[simp] theorem State.rescheduleWakes_ports : s.rescheduleWakes.ports = s.ports := by rw [State.rescheduleWakes_frame]
@[simp] theorem State.rescheduleWakes_fga : s.rescheduleWakes.fga = s.fga := by rw [State.rescheduleWakes_frame]

@[simp] theorem State.effChanged_cond (old : EffStage) : (s.effChanged old).cond = s.cond := by
  rcases s.effChanged_cases old with ⟨-, h⟩ | ⟨-, -, h⟩ | ⟨-, -, h⟩ <;> rw [h] <;> simp
@[simp] theorem State.effChanged_pins (old : EffStage) : (s.effChanged old).pins = s.pins := by
  rcases s.effChanged_cases old with ⟨-, h⟩ | ⟨-, -, h⟩ | ⟨-, -, h⟩ <;> rw [h] <;> simp
@[simp] theorem State.effChanged_straps (old : EffStage) : (s.effChanged old).straps = s.straps := by
  rcases s.effChanged_cases old with ⟨-, h⟩ | ⟨-, -, h⟩ | ⟨-, -, h⟩ <;> rw [h] <;> simp
@[simp] theorem State.effChanged_sup (old : EffStage) : (s.effChanged old).sup = s.sup := by
  rcases s.effChanged_cases old with ⟨-, h⟩ | ⟨-, -, h⟩ | ⟨-, -, h⟩ <;> rw [h] <;> simp
@[simp] theorem State.effChanged_cac (old : EffStage) : (s.effChanged old).cac = s.cac := by
  rcases s.effChanged_cases old with ⟨-, h⟩ | ⟨-, -, h⟩ | ⟨-, -, h⟩ <;> rw [h] <;> simp
@[simp] theorem State.effChanged_pdi (old : EffStage) : (s.effChanged old).pdi = s.pdi := by
  rcases s.effChanged_cases old with ⟨-, h⟩ | ⟨-, -, h⟩ | ⟨-, -, h⟩ <;> rw [h] <;> simp
@[simp] theorem State.effChanged_nvs (old : EffStage) : (s.effChanged old).nvs = s.nvs := by
  rcases s.effChanged_cases old with ⟨-, h⟩ | ⟨-, -, h⟩ | ⟨-, -, h⟩ <;> rw [h] <;> simp
@[simp] theorem State.effChanged_hlk (old : EffStage) : (s.effChanged old).hlk = s.hlk := by
  rcases s.effChanged_cases old with ⟨-, h⟩ | ⟨-, -, h⟩ | ⟨-, -, h⟩ <;> rw [h] <;> simp
@[simp] theorem State.effChanged_freeUses (old : EffStage) : (s.effChanged old).freeUses = s.freeUses := by
  rcases s.effChanged_cases old with ⟨-, h⟩ | ⟨-, -, h⟩ | ⟨-, -, h⟩ <;> rw [h] <;> simp
@[simp] theorem State.effChanged_pending (old : EffStage) : (s.effChanged old).pending = s.pending := by
  rcases s.effChanged_cases old with ⟨-, h⟩ | ⟨-, -, h⟩ | ⟨-, -, h⟩ <;> rw [h] <;> simp

end Sys2Proof.Machine
end

