-- ==== Sys2Proof/Laws/Cycle.lean ====
section
/-! SUPPORT. The outage cycle, the trips and the messages: what each leaves as it was. -/

namespace Sys2Proof.Machine

variable (s : State) (p : PortId)

/-! ### Outage begin (R7) -/

theorem State.stagger_frame : s.stagger = { s with wakes := s.stagger.wakes } := by
  refine State.forPorts_induct (P := fun t => t = { s with wakes := t.wakes }) _ allPorts (fun p _ t h => ?_) rfl
  split
  · exact h ▸ rfl
  · exact h

theorem State.feedOnly_fgaBegin : s.FeedOnly s.fgaBegin := by
  unfold State.fgaBegin
  dsimp only
  refine State.FeedOnly.trans ?_ (State.feedOnly_arbitrate _)
  exact (s.feedOnly_forPorts (fun p t => t.feedOnly_endFeedQuietly p) _).trans (State.feedOnly_mapPorts _ _)

theorem State.ctuBegin_frame : s.ctuBegin = { s with ports := s.ctuBegin.ports } := by
  refine State.forPorts_induct (P := fun t => t = { s with ports := t.ports }) _ allPorts (fun p _ t h => ?_) rfl
  unfold State.ctuBeginOne
  split
  · rw [h]; rfl
  · exact h

@[simp] theorem State.stagger_cond : s.stagger.cond = s.cond := by rw [State.stagger_frame]
@[simp] theorem State.stagger_pins : s.stagger.pins = s.pins := by rw [State.stagger_frame]
@[simp] theorem State.stagger_straps : s.stagger.straps = s.straps := by rw [State.stagger_frame]
@[simp] theorem State.stagger_sup : s.stagger.sup = s.sup := by rw [State.stagger_frame]
@[simp] theorem State.stagger_cac : s.stagger.cac = s.cac := by rw [State.stagger_frame]
@[simp] theorem State.stagger_ports : s.stagger.ports = s.ports := by rw [State.stagger_frame]
@[simp] theorem State.stagger_fga : s.stagger.fga = s.fga := by rw [State.stagger_frame]
@[simp] theorem State.stagger_pdi : s.stagger.pdi = s.pdi := by rw [State.stagger_frame]
@[simp] theorem State.stagger_nvs : s.stagger.nvs = s.nvs := by rw [State.stagger_frame]
@[simp] theorem State.stagger_hlk : s.stagger.hlk = s.hlk := by rw [State.stagger_frame]
@[simp] theorem State.stagger_freeUses : s.stagger.freeUses = s.freeUses := by rw [State.stagger_frame]
@[simp] theorem State.stagger_pending : s.stagger.pending = s.pending := by rw [State.stagger_frame]

@[simp] theorem State.fgaBegin_cond : s.fgaBegin.cond = s.cond := s.feedOnly_fgaBegin.cond
@[simp] theorem State.fgaBegin_pins : s.fgaBegin.pins = s.pins := s.feedOnly_fgaBegin.pins
@[simp] theorem State.fgaBegin_straps : s.fgaBegin.straps = s.straps := s.feedOnly_fgaBegin.straps
@[simp] theorem State.fgaBegin_sup : s.fgaBegin.sup = s.sup := s.feedOnly_fgaBegin.sup
@[simp] theorem State.fgaBegin_cac : s.fgaBegin.cac = s.cac := s.feedOnly_fgaBegin.cac
@[simp] theorem State.fgaBegin_wakes : s.fgaBegin.wakes = s.wakes := s.feedOnly_fgaBegin.wakes
@[simp] theorem State.fgaBegin_pdi : s.fgaBegin.pdi = s.pdi := s.feedOnly_fgaBegin.pdi
@[simp] theorem State.fgaBegin_nvs : s.fgaBegin.nvs = s.nvs := s.feedOnly_fgaBegin.nvs
@[simp] theorem State.fgaBegin_hlk : s.fgaBegin.hlk = s.hlk := s.feedOnly_fgaBegin.hlk
@[simp] theorem State.fgaBegin_freeUses : s.fgaBegin.freeUses = s.freeUses := s.feedOnly_fgaBegin.freeUses
@[simp] theorem State.fgaBegin_pending : s.fgaBegin.pending = s.pending := s.feedOnly_fgaBegin.pending

@[simp] theorem State.ctuBegin_cond : s.ctuBegin.cond = s.cond := by rw [State.ctuBegin_frame]
@[simp] theorem State.ctuBegin_pins : s.ctuBegin.pins = s.pins := by rw [State.ctuBegin_frame]
@[simp] theorem State.ctuBegin_straps : s.ctuBegin.straps = s.straps := by rw [State.ctuBegin_frame]
@[simp] theorem State.ctuBegin_sup : s.ctuBegin.sup = s.sup := by rw [State.ctuBegin_frame]
@[simp] theorem State.ctuBegin_cac : s.ctuBegin.cac = s.cac := by rw [State.ctuBegin_frame]
@[simp] theorem State.ctuBegin_wakes : s.ctuBegin.wakes = s.wakes := by rw [State.ctuBegin_frame]
@[simp] theorem State.ctuBegin_fga : s.ctuBegin.fga = s.fga := by rw [State.ctuBegin_frame]
@[simp] theorem State.ctuBegin_pdi : s.ctuBegin.pdi = s.pdi := by rw [State.ctuBegin_frame]
@[simp] theorem State.ctuBegin_nvs : s.ctuBegin.nvs = s.nvs := by rw [State.ctuBegin_frame]
@[simp] theorem State.ctuBegin_hlk : s.ctuBegin.hlk = s.hlk := by rw [State.ctuBegin_frame]
@[simp] theorem State.ctuBegin_freeUses : s.ctuBegin.freeUses = s.freeUses := by rw [State.ctuBegin_frame]
@[simp] theorem State.ctuBegin_pending : s.ctuBegin.pending = s.pending := by rw [State.ctuBegin_frame]

@[simp] theorem State.handBegin_cond : s.handBegin.cond = s.cond := by simp [State.handBegin]
@[simp] theorem State.handBegin_pins : s.handBegin.pins = s.pins := by simp [State.handBegin]
@[simp] theorem State.handBegin_straps : s.handBegin.straps = s.straps := by simp [State.handBegin]
@[simp] theorem State.handBegin_sup : s.handBegin.sup = s.sup := by simp [State.handBegin]
@[simp] theorem State.handBegin_pdi : s.handBegin.pdi = s.pdi := by simp [State.handBegin]
@[simp] theorem State.handBegin_freeUses : s.handBegin.freeUses = s.freeUses := by simp [State.handBegin]
@[simp] theorem State.handBegin_pending : s.handBegin.pending = s.pending := by simp [State.handBegin]

/-- What the hand-over of an outage begin makes of the account, the host link and the store. -/
theorem State.handBegin_cac : s.handBegin.cac = s.cacBegin.cac := by simp [State.handBegin]

theorem State.handBegin_hlk : s.handBegin.hlk = s.hlkBegin.hlk := by simp [State.handBegin]

theorem State.handBegin_nvs : s.handBegin.nvs = { s.nvs with cpTimer := some (checkpointPeriod s.sup.mode) } := by
  simp [State.handBegin]

@[simp] theorem State.outageBegin_cond (e0 : Nat) (b : Bool) : (s.outageBegin e0 b).cond = s.cond := by
  unfold State.outageBegin
  dsimp only
  split <;> simp
@[simp] theorem State.outageBegin_pins (e0 : Nat) (b : Bool) : (s.outageBegin e0 b).pins = s.pins := by
  unfold State.outageBegin
  dsimp only
  split <;> simp
@[simp] theorem State.outageBegin_straps (e0 : Nat) (b : Bool) : (s.outageBegin e0 b).straps = s.straps := by
  unfold State.outageBegin
  dsimp only
  split <;> simp
@[simp] theorem State.outageBegin_pdi (e0 : Nat) (b : Bool) : (s.outageBegin e0 b).pdi = s.pdi := by
  unfold State.outageBegin
  dsimp only
  split <;> simp
@[simp] theorem State.outageBegin_freeUses (e0 : Nat) (b : Bool) : (s.outageBegin e0 b).freeUses = s.freeUses := by
  unfold State.outageBegin
  dsimp only
  split <;> simp
@[simp] theorem State.outageBegin_pending (e0 : Nat) (b : Bool) : (s.outageBegin e0 b).pending = s.pending := by
  unfold State.outageBegin
  dsimp only
  split <;> simp

/-- The supervisor after an outage begin (R5, R7). -/
@[simp] theorem State.outageBegin_sup (e0 : Nat) (b : Bool) : (s.outageBegin e0 b).sup = (s.supBegin e0).sup := by
  unfold State.outageBegin
  dsimp only
  split <;> simp

/-- The account after an outage begin (R36). -/
theorem State.outageBegin_cac (e0 : Nat) (b : Bool) : (s.outageBegin e0 b).cac = s.cacBegin.cac := by
  unfold State.outageBegin
  dsimp only
  split <;> simp [State.handBegin_cac]

/-! ### The periodic line tests as STANDBY begins (R158) -/

@[simp] theorem State.periodicsDue_cond : s.periodicsDue.cond = s.cond := by
  unfold State.periodicsDue
  exact State.forPorts_induct (P := fun t => t.cond = s.cond) s allPorts (fun _ _ _ h => by simp [h]) rfl
@[simp] theorem State.periodicsDue_pins : s.periodicsDue.pins = s.pins := by
  unfold State.periodicsDue
  exact State.forPorts_induct (P := fun t => t.pins = s.pins) s allPorts (fun _ _ _ h => by simp [h]) rfl
@[simp] theorem State.periodicsDue_straps : s.periodicsDue.straps = s.straps := by
  unfold State.periodicsDue
  exact State.forPorts_induct (P := fun t => t.straps = s.straps) s allPorts (fun _ _ _ h => by simp [h]) rfl
@[simp] theorem State.periodicsDue_sup : s.periodicsDue.sup = s.sup := by
  unfold State.periodicsDue
  exact State.forPorts_induct (P := fun t => t.sup = s.sup) s allPorts (fun _ _ _ h => by simp [h]) rfl
@[simp] theorem State.periodicsDue_cac : s.periodicsDue.cac = s.cac := by
  unfold State.periodicsDue
  exact State.forPorts_induct (P := fun t => t.cac = s.cac) s allPorts (fun _ _ _ h => by simp [h]) rfl
@[simp] theorem State.periodicsDue_wakes : s.periodicsDue.wakes = s.wakes := by
  unfold State.periodicsDue
  exact State.forPorts_induct (P := fun t => t.wakes = s.wakes) s allPorts (fun _ _ _ h => by simp [h]) rfl
@[simp] theorem State.periodicsDue_fga : s.periodicsDue.fga = s.fga := by
  unfold State.periodicsDue
  exact State.forPorts_induct (P := fun t => t.fga = s.fga) s allPorts (fun _ _ _ h => by simp [h]) rfl
@[simp] theorem State.periodicsDue_nvs : s.periodicsDue.nvs = s.nvs := by
  unfold State.periodicsDue
  exact State.forPorts_induct (P := fun t => t.nvs = s.nvs) s allPorts (fun _ _ _ h => by simp [h]) rfl
@[simp] theorem State.periodicsDue_hlk : s.periodicsDue.hlk = s.hlk := by
  unfold State.periodicsDue
  exact State.forPorts_induct (P := fun t => t.hlk = s.hlk) s allPorts (fun _ _ _ h => by simp [h]) rfl
@[simp] theorem State.periodicsDue_freeUses : s.periodicsDue.freeUses = s.freeUses := by
  unfold State.periodicsDue
  exact State.forPorts_induct (P := fun t => t.freeUses = s.freeUses) s allPorts (fun _ _ _ h => by simp [h]) rfl
@[simp] theorem State.periodicsDue_pending : s.periodicsDue.pending = s.pending := by
  unfold State.periodicsDue
  exact State.forPorts_induct (P := fun t => t.pending = s.pending) s allPorts (fun _ _ _ h => by simp [h]) rfl
@[simp] theorem State.periodicsDue_instrument : s.periodicsDue.pdi.instrument = s.pdi.instrument := by
  unfold State.periodicsDue
  exact State.forPorts_induct (P := fun t => t.pdi.instrument = s.pdi.instrument) s allPorts (fun _ _ _ h => by simp [h]) rfl

/-! ### Outage end (R9) -/

theorem State.feedOnly_fgaEnd : s.FeedOnly s.fgaEnd :=
  (s.feedOnly_forPorts (fun p t => t.feedOnly_endFeedQuietly p) _).trans (State.feedOnly_mapPorts _ _)

@[simp] theorem State.fgaEnd_cond : s.fgaEnd.cond = s.cond := s.feedOnly_fgaEnd.cond
@[simp] theorem State.fgaEnd_pins : s.fgaEnd.pins = s.pins := s.feedOnly_fgaEnd.pins
@[simp] theorem State.fgaEnd_straps : s.fgaEnd.straps = s.straps := s.feedOnly_fgaEnd.straps
@[simp] theorem State.fgaEnd_sup : s.fgaEnd.sup = s.sup := s.feedOnly_fgaEnd.sup
@[simp] theorem State.fgaEnd_cac : s.fgaEnd.cac = s.cac := s.feedOnly_fgaEnd.cac
@[simp] theorem State.fgaEnd_wakes : s.fgaEnd.wakes = s.wakes := s.feedOnly_fgaEnd.wakes
@[simp] theorem State.fgaEnd_pdi : s.fgaEnd.pdi = s.pdi := s.feedOnly_fgaEnd.pdi
@[simp] theorem State.fgaEnd_nvs : s.fgaEnd.nvs = s.nvs := s.feedOnly_fgaEnd.nvs
@[simp] theorem State.fgaEnd_hlk : s.fgaEnd.hlk = s.hlk := s.feedOnly_fgaEnd.hlk
@[simp] theorem State.fgaEnd_freeUses : s.fgaEnd.freeUses = s.freeUses := s.feedOnly_fgaEnd.freeUses
@[simp] theorem State.fgaEnd_pending : s.fgaEnd.pending = s.pending := s.feedOnly_fgaEnd.pending

@[simp] theorem State.cacEnd_cond : s.cacEnd.cond = s.cond := by simp [State.cacEnd]
@[simp] theorem State.cacEnd_pins : s.cacEnd.pins = s.pins := by simp [State.cacEnd]
@[simp] theorem State.cacEnd_straps : s.cacEnd.straps = s.straps := by simp [State.cacEnd]
@[simp] theorem State.cacEnd_sup : s.cacEnd.sup = s.sup := by simp [State.cacEnd]
@[simp] theorem State.cacEnd_ports : s.cacEnd.ports = s.ports := by simp [State.cacEnd]
@[simp] theorem State.cacEnd_wakes : s.cacEnd.wakes = s.wakes := by simp [State.cacEnd]
@[simp] theorem State.cacEnd_fga : s.cacEnd.fga = s.fga := by simp [State.cacEnd]
@[simp] theorem State.cacEnd_pdi : s.cacEnd.pdi = s.pdi := by simp [State.cacEnd]
@[simp] theorem State.cacEnd_freeUses : s.cacEnd.freeUses = s.freeUses := by simp [State.cacEnd]
@[simp] theorem State.cacEnd_pending : s.cacEnd.pending = s.pending := by simp [State.cacEnd]

@[simp] theorem State.handEnd_cond : s.handEnd.cond = s.cond := by simp [State.handEnd]
@[simp] theorem State.handEnd_pins : s.handEnd.pins = s.pins := by simp [State.handEnd]
@[simp] theorem State.handEnd_straps : s.handEnd.straps = s.straps := by simp [State.handEnd]
@[simp] theorem State.handEnd_sup : s.handEnd.sup = s.sup := by simp [State.handEnd]
@[simp] theorem State.handEnd_instrument : s.handEnd.pdi.instrument = s.pdi.instrument := by simp [State.handEnd]
@[simp] theorem State.handEnd_freeUses : s.handEnd.freeUses = s.freeUses := by simp [State.handEnd]
@[simp] theorem State.handEnd_pending : s.handEnd.pending = s.pending := by simp [State.handEnd]

@[simp] theorem State.handEnd_wakes : s.handEnd.wakes = [] := by simp [State.handEnd]

@[simp] theorem State.outageEnd_cond (d : Nat) : (s.outageEnd d).cond = s.cond := by simp [State.outageEnd]
@[simp] theorem State.outageEnd_pins (d : Nat) : (s.outageEnd d).pins = s.pins := by simp [State.outageEnd]
@[simp] theorem State.outageEnd_straps (d : Nat) : (s.outageEnd d).straps = s.straps := by simp [State.outageEnd]
@[simp] theorem State.outageEnd_instrument (d : Nat) : (s.outageEnd d).pdi.instrument = s.pdi.instrument := by
  simp [State.outageEnd]
@[simp] theorem State.outageEnd_freeUses (d : Nat) : (s.outageEnd d).freeUses = s.freeUses := by simp [State.outageEnd]
@[simp] theorem State.outageEnd_pending (d : Nat) : (s.outageEnd d).pending = s.pending := by simp [State.outageEnd]

/-- The supervisor after an outage end (R4, R9). -/
@[simp] theorem State.outageEnd_sup (d : Nat) : (s.outageEnd d).sup = (s.supEnd d).sup := by simp [State.outageEnd]

@[simp] theorem State.outageEnd_wakes (d : Nat) : (s.outageEnd d).wakes = [] := by simp [State.outageEnd]

/-! ### The end of START (R3 to R5, R176) -/

/-- STANDBY begins at the end of START: what it leaves as it was (R4). -/
@[simp] theorem State.standbyBegins_cond : s.standbyBegins.cond = s.cond := by simp [State.standbyBegins]
@[simp] theorem State.standbyBegins_pins : s.standbyBegins.pins = s.pins := by simp [State.standbyBegins]
@[simp] theorem State.standbyBegins_straps : s.standbyBegins.straps = s.straps := by simp [State.standbyBegins]
@[simp] theorem State.standbyBegins_wakes : s.standbyBegins.wakes = s.wakes := by simp [State.standbyBegins]
@[simp] theorem State.standbyBegins_fga : s.standbyBegins.fga = s.fga := by simp [State.standbyBegins]
@[simp] theorem State.standbyBegins_hlk : s.standbyBegins.hlk = s.hlk := by simp [State.standbyBegins]
@[simp] theorem State.standbyBegins_freeUses : s.standbyBegins.freeUses = s.freeUses := by simp [State.standbyBegins]
@[simp] theorem State.standbyBegins_pending : s.standbyBegins.pending = s.pending := by simp [State.standbyBegins]
@[simp] theorem State.standbyBegins_instrument : s.standbyBegins.pdi.instrument = s.pdi.instrument := by simp [State.standbyBegins]
@[simp] theorem State.standbyBegins_sup : s.standbyBegins.sup = { s.sup with mode := .standby } := by simp [State.standbyBegins]

@[simp] theorem State.settleMode_cond (cp : Option Checkpoint) : (s.settleMode cp).cond = s.cond := by
  unfold State.settleMode
  repeat' split
  all_goals simp
@[simp] theorem State.settleMode_pins (cp : Option Checkpoint) : (s.settleMode cp).pins = s.pins := by
  unfold State.settleMode
  repeat' split
  all_goals simp
@[simp] theorem State.settleMode_straps (cp : Option Checkpoint) : (s.settleMode cp).straps = s.straps := by
  unfold State.settleMode
  repeat' split
  all_goals simp
@[simp] theorem State.settleMode_instrument (cp : Option Checkpoint) :
    (s.settleMode cp).pdi.instrument = s.pdi.instrument := by
  unfold State.settleMode
  repeat' split
  all_goals simp
@[simp] theorem State.settleMode_freeUses (cp : Option Checkpoint) : (s.settleMode cp).freeUses = s.freeUses := by
  unfold State.settleMode
  repeat' split
  all_goals simp
@[simp] theorem State.settleMode_pending (cp : Option Checkpoint) : (s.settleMode cp).pending = s.pending := by
  unfold State.settleMode
  repeat' split
  all_goals simp

/-- The mode after the end of START is decided by MAINS alone (R4, R5). -/
theorem State.settleMode_mode (cp : Option Checkpoint) :
    (s.settleMode cp).sup.mode = if s.pins.mains then .standby else .outage := by
  unfold State.settleMode
  repeat' split
  all_goals simp_all

@[simp] theorem State.recover_cond (a b : Bool) : (s.recover a b).cond = s.cond := by
  unfold State.recover
  split
  · dsimp only
    rw [State.nextOperation_cond, State.settleMode_cond]
    split <;> simp
  · rfl
@[simp] theorem State.recover_pins (a b : Bool) : (s.recover a b).pins = s.pins := by
  unfold State.recover
  split
  · dsimp only
    rw [State.nextOperation_pins, State.settleMode_pins]
    split <;> simp
  · rfl
@[simp] theorem State.recover_straps (a b : Bool) : (s.recover a b).straps = s.straps := by
  unfold State.recover
  split
  · dsimp only
    rw [State.nextOperation_straps, State.settleMode_straps]
    split <;> simp
  · rfl
@[simp] theorem State.recover_instrument (a b : Bool) : (s.recover a b).pdi.instrument = s.pdi.instrument := by
  unfold State.recover
  split
  · dsimp only
    rw [State.nextOperation_pdi, State.settleMode_instrument]
    split <;> simp
  · rfl
@[simp] theorem State.recover_freeUses (a b : Bool) : (s.recover a b).freeUses = s.freeUses := by
  unfold State.recover
  split
  · dsimp only
    rw [State.nextOperation_freeUses, State.settleMode_freeUses]
    split <;> simp
  · rfl
@[simp] theorem State.recover_pending (a b : Bool) : (s.recover a b).pending = s.pending := by
  unfold State.recover
  split
  · dsimp only
    rw [State.nextOperation_pending, State.settleMode_pending]
    split <;> simp
  · rfl

/-! ### Trips (R132, R133) -/

@[simp] theorem State.trip_cond (kind : TripKind) : (s.trip kind p).cond = s.cond := by
  unfold State.trip
  dsimp only
  split <;> simp
@[simp] theorem State.trip_pins (kind : TripKind) : (s.trip kind p).pins = s.pins := by
  unfold State.trip
  dsimp only
  split <;> simp
@[simp] theorem State.trip_straps (kind : TripKind) : (s.trip kind p).straps = s.straps := by
  unfold State.trip
  dsimp only
  split <;> simp
@[simp] theorem State.trip_sup (kind : TripKind) : (s.trip kind p).sup = s.sup := by
  unfold State.trip
  dsimp only
  split <;> simp
@[simp] theorem State.trip_cac (kind : TripKind) : (s.trip kind p).cac = s.cac := by
  unfold State.trip
  dsimp only
  split <;> simp
@[simp] theorem State.trip_wakes (kind : TripKind) : (s.trip kind p).wakes = s.wakes := by
  unfold State.trip
  dsimp only
  split <;> simp
@[simp] theorem State.trip_freeUses (kind : TripKind) : (s.trip kind p).freeUses = s.freeUses := by
  unfold State.trip
  dsimp only
  split <;> simp
@[simp] theorem State.trip_pending (kind : TripKind) : (s.trip kind p).pending = s.pending := by
  unfold State.trip
  dsimp only
  split <;> simp

end Sys2Proof.Machine
end

