-- ==== Sys2Proof/Laws/Wires.lean ====
section
/-! SUPPORT. Laws of the wires: what the two receivers do with a run of bytes or bits, and what the operations that drive them
change. -/

namespace Sys2Proof.Machine

/-! ### The frame receiver -/

@[simp] theorem FrameRx.takeAll_nil (r : FrameRx) : r.takeAll [] = (r, []) := rfl

/-- A run of events in two parts. -/
theorem FrameRx.takeAll_append (r : FrameRx) (es fs : List RxdEvent) :
    r.takeAll (es ++ fs) = (((r.takeAll es).1.takeAll fs).1, (r.takeAll es).2 ++ ((r.takeAll es).1.takeAll fs).2) := by
  induction es generalizing r with
  | nil => simp
  | cons e es ih => simp [FrameRx.takeAll, ih]

/-- In HUNT every byte but the start byte is ignored (R178). -/
theorem FrameRx.takeAll_noise (noise : List Byte) (h : 0xA6#8 ∉ noise) :
    FrameRx.hunt.takeAll (noise.map .byte) = (.hunt, []) := by
  induction noise with
  | nil => rfl
  | cons b bs ih =>
    have hb : b ≠ 0xA6#8 := fun e => h (by simp [e])
    simp [FrameRx.takeAll, FrameRx.take, hb, ih fun m => h (by simp [m])]

/-- In BODY the bytes are kept; the last one expected moves the receiver to CHECK (R178). -/
theorem FrameRx.takeAll_body (n : Nat) (bytes kept : List Byte) (h : kept.length + bytes.length = n) (hne : bytes ≠ []) :
    (FrameRx.body n kept).takeAll (bytes.map .byte) = (.check (kept ++ bytes), []) := by
  induction bytes generalizing kept with
  | nil => exact absurd rfl hne
  | cons b bs ih =>
    simp only [List.length_cons] at h
    cases bs with
    | nil => simp [FrameRx.takeAll, FrameRx.take, ← h]
    | cons c cs =>
      have := ih (kept ++ [b]) (by simp only [List.length_append, List.length_cons, List.length_nil] at *; omega) (by simp)
      have hlt : kept.length + 1 < n := by simp only [List.length_cons] at h; omega
      simp only [List.map_cons, List.append_assoc, List.cons_append, List.nil_append] at this
      simp [FrameRx.takeAll, FrameRx.take, hlt] at this ⊢
      exact this

/-- A whole frame, byte by byte, is judged as its check byte arrives, and the receiver hunts again (R178, R179). -/
theorem FrameRx.takeAll_frame (len check : Byte) (body : List Byte) (h : body.length = len.toNat) (hne : body ≠ [])
    (hmax : len.toNat ≤ 60) :
    FrameRx.hunt.takeAll ((0xA6#8 :: len :: body ++ [check]).map .byte) = (.hunt, [judgeFrame body check]) := by
  have hpos : len.toNat ≠ 0 := by
    rw [← h]; exact fun e => hne (List.eq_nil_of_length_eq_zero e)
  have hlen : ¬(len.toNat = 0 ∨ 60 < len.toNat) := by omega
  have hb := FrameRx.takeAll_body len.toNat body [] (by simpa using h) hne
  simp only [List.cons_append, List.map_cons, List.map_append, FrameRx.takeAll, FrameRx.take, hlen, if_false, if_true,
    Option.toList_none, List.nil_append, FrameRx.takeAll_append, hb]
  rfl

/-- What an event on RXD leaves of the part: only the frame receiver and the queue change (R178). -/
theorem State.rxd_eq (e : RxdEvent) (s : State) :
    s.rxd e = s ∨ s.rxd e = { s with
      hlk := { s.hlk with frameRx := (s.hlk.frameRx.take e).1 }
      pending := s.pending ++ (s.hlk.frameRx.take e).2.toList } := by
  unfold State.rxd
  split
  · exact .inr rfl
  · exact .inl rfl

/-! ### The receiver of a pair -/

@[simp] theorem RxState.hearAll_nil (p : PortId) (r : RxState) : r.hearAll p [] = (r, []) := rfl

/-- A run of bits in two parts. -/
theorem RxState.hearAll_append (p : PortId) (r : RxState) (xs ys : List Bool) :
    r.hearAll p (xs ++ ys) =
      (((r.hearAll p xs).1.hearAll p ys).1, (r.hearAll p xs).2 ++ ((r.hearAll p xs).1.hearAll p ys).2) := by
  induction xs generalizing r with
  | nil => simp
  | cons x xs ih => simp [RxState.hearAll, ih]

/-- A gated receiver hears nothing (R64). -/
@[simp] theorem RxState.hearAll_gated (p : PortId) (bits : List Bool) : RxState.gated.hearAll p bits = (.gated, []) := by
  induction bits with
  | nil => rfl
  | cons b bs ih => simp [RxState.hearAll, RxState.hear, ih]

/-- A sync without error, heard by a receiver that hunts with no bits in hand, takes it to HEADER (R65). -/
theorem RxState.hearAll_sync (p : PortId) : (RxState.hunt []).hearAll p (fieldBits syncPattern) = (.header [], []) := by
  have h : ∀ q : PortId, (RxState.hunt []).hearAll q (fieldBits syncPattern) = (.header [], []) := by decide
  exact h p

/-- The header bits are kept until the 13th arrives, with which the header is judged (R66). -/
theorem RxState.hearAll_header (p : PortId) (more bits : List Bool) (h : bits.length + more.length = 13) (hne : more ≠ []) :
    (RxState.header bits).hearAll p more =
      ((headerEnds p (bits ++ more)).1, (headerEnds p (bits ++ more)).2.toList) := by
  induction more generalizing bits with
  | nil => exact absurd rfl hne
  | cons b bs ih =>
    simp only [List.length_cons] at h
    cases bs with
    | nil => simp only [List.length_nil] at h; simp [RxState.hearAll, RxState.hear, h]
    | cons c cs =>
      have hlt : bits.length + 1 < 13 := by simp only [List.length_cons] at h; omega
      have := ih (bits ++ [b]) (by simp only [List.length_append, List.length_cons, List.length_nil] at *; omega) (by simp)
      rw [RxState.hearAll]
      simp only [RxState.hear, hlt, if_true, Option.toList_none, List.nil_append, this, List.append_assoc, List.cons_append]

/-- The bits of body and check are kept until the last one arrives, with which the message is judged (R67, R68). -/
theorem RxState.hearAll_body (p : PortId) (first : List Bool) (data : Byte) (corrected : Bool) (more bits : List Bool)
    (h : bits.length + more.length = 8 * (bodyLength data + 1)) (hne : more ≠ []) :
    (RxState.body first data corrected bits).hearAll p more =
      ((bodyEnds p first data corrected (bits ++ more)).1, (bodyEnds p first data corrected (bits ++ more)).2.toList) := by
  induction more generalizing bits with
  | nil => exact absurd rfl hne
  | cons b bs ih =>
    simp only [List.length_cons] at h
    cases bs with
    | nil => simp only [List.length_nil] at h; simp [RxState.hearAll, RxState.hear, h]
    | cons c cs =>
      have hlt : bits.length + 1 < 8 * (bodyLength data + 1) := by simp only [List.length_cons] at h; omega
      have := ih (bits ++ [b]) (by simp only [List.length_append, List.length_cons, List.length_nil] at *; omega) (by simp)
      rw [RxState.hearAll]
      simp only [RxState.hear, hlt, if_true, Option.toList_none, List.nil_append, this, List.append_assoc, List.cons_append]

/-- The loss of the bit timing cuts off exactly a message being taken (R69). -/
theorem RxState.loseTiming_eq (p : PortId) (r : RxState) :
    (r.taking = false ∧ r.loseTiming p = (r, none))
      ∨ (r.taking = true ∧ ∃ corrected bits, r.loseTiming p = (backToHunt bits, some (.messageCutOff p corrected))) := by
  cases r with
  | gated => exact .inl ⟨rfl, rfl⟩
  | hunt bits => exact .inl ⟨rfl, rfl⟩
  | header bits => exact .inr ⟨rfl, _, _, rfl⟩
  | body first data corrected bits => exact .inr ⟨rfl, _, _, rfl⟩

/-- A gated receiver stays gated, and no bit gates one that listens (R64). -/
theorem RxState.hear_gated (p : PortId) (b : Bool) (r : RxState) : (r.hear p b).1 = .gated ↔ r = .gated := by
  cases r with
  | gated => simp [RxState.hear]
  | hunt bits => simp only [RxState.hear]; split <;> simp
  | header bits =>
    simp only [RxState.hear]
    split
    · simp
    · unfold headerEnds
      split
      · simp [backToHunt]
      · split <;> simp [backToHunt]
  | body first data corrected bits =>
    simp only [RxState.hear]
    split <;> simp [bodyEnds, backToHunt]

end Sys2Proof.Machine
end

