-- ==== Sys2Proof/Tests/Slice0.lean ====
section
/-! SUPPORT. Tests of the model against the manual's worked examples and tables, the smoke test of well-formedness, the decoding
of words written out from the manual's encodings, and a witness for the hypotheses of every statement. -/

namespace Sys2Proof.Tests

open Sys2Proof Sys2Proof.Machine Sys2Proof.Claims

set_option maxRecDepth 8000

/-! ### The states the tests start from -/

/-- The state after one command. -/
def run (c : Instr) (s : State) : State :=
  match exec c s with
  | .next t => t
  | _ => s

/-- A state with its ports given one by one. -/
def State.withPorts (s : State) (f : PortId → Port) : State := { s with ports := Vector.ofFn f }

/-- A port of a class, enabled and idle. -/
def made (p : PortId) (c : ServiceClass) : Port :=
  { resetPort p with profile := { defaultProfile with enabled := true, cls := c }, state := .idle, rx := .hunt }

/-- A port of class STANDARD in a state. -/
def madeIn (p : PortId) (st : PortState) : Port := { made p .standard with state := st }

/-- A FED port of a class. -/
def madeFed (p : PortId) (c : ServiceClass) : Port :=
  { made p c with state := .fed, switch := { closed := true, clean := some 30 } }

/-- A port in LINE_TEST. -/
def madeTested (p : PortId) (c : ServiceClass) : Port := { made p c with state := .lineTest, rx := .gated }

/-- A port LOCKED after trips. -/
def madeLocked (p : PortId) : Port := { madeIn p .locked with lockReason := some .repeatedTrip }

/-- A port in RETRY after one trip. -/
def madeRetry (p : PortId) : Port := { madeIn p .retry with switch := { trips := 1, backoff := some 5 } }

/-- The ports of an outage, one in each state. -/
def nightPorts (p : PortId) : Port :=
  match p.val with
  | 1 => made p .lifeline
  | 2 => { madeIn p .waking with checkin := some 5, missed := 2 }
  | 3 => { madeIn p .awake with term := .awake, burst := some 60, silence := some 100 }
  | 4 => { madeIn p .queued with term := .awake, burst := some 60, silence := some 100 }
  | 5 => { madeFed p .standard with
            term := .awake, burst := some 60, silence := some 100, switch := { closed := true, overload := some 400, clean := some 30 } }
  | 6 => madeTested p .standard
  | 7 => { madeRetry p with term := .call }
  | 8 => madeLocked p
  | 9 => { madeFed p .lifeline with term := .call, silence := some 100 }
  | 10 => made p .deferred
  | 11 => { madeFed p .standard with hold := true, switch := { closed := true, blanking := some 100, clean := some 60 } }
  | 12 => { madeFed p .standard with hold := true, switch := { closed := true, trips := 3, clean := some 20 } }
  | 13 => { madeIn p .queued with hold := true }
  | 14 => { madeIn p .awake with term := .awake, hold := true, burst := some 60 }
  | _ => resetPort p

/-- The ports of a day with mains, one in each state. -/
def dayPorts (p : PortId) : Port :=
  match p.val with
  | 1 => { made p .lifeline with cell := { due := 100 }, periodicDue := 100 }
  | 2 => { madeIn p .cellTest with cell := { due := 100, phase := .ordering, duration := some 30 } }
  | 3 => { madeIn p .cellTest with cell := { due := 100, phase := .loading, duration := some 30, report := some 5 } }
  | 4 => { madeIn p .queued with standbyFeed := true }
  | 5 => { madeFed p .standard with standbyFeed := true }
  | 6 => { madeTested p .lifeline with lockReason := some .lineFault }
  | 7 => { madeRetry p with hold := true }
  | 8 => madeLocked p
  | 9 => { madeFed p .standard with hold := true }
  | 10 => made p .deferred
  | 11 => made p .standard
  | 12 => { madeIn p .awake with term := .call, silence := some 100 }
  | _ => resetPort p

/-- Past START, in a mode, with the host link and the store as that mode has them. -/
def past (m : Mode) (w : Window) (timer : Nat) : State :=
  { State.reset with
    sup := { resetSup with mode := m, partTime := 1000 }
    nvs := { resetNvs with activity := .idle, cpTimer := some timer }
    hlk := { resetHlk with window := w } }

/-- An outage in stage OPEN with six ports fed, the most that the slot ceiling admits being six. -/
def night : State :=
  let s := State.withPorts (past .outage (.long 300) 300) nightPorts
  { s with
    sup := { s.sup with outageTime := 500 }
    cac := { s.cac with stage := .openStage, candidate := some .openStage, credit := 100 }
    wakes := [⟨1, 500⟩, ⟨3, 600⟩]
    fga :=
      { queue := [⟨13, .p3, 7, 900⟩, ⟨4, .p5, 6, 900⟩]
        grants := [⟨5, .p5, 600, 900, 1⟩, ⟨9, .p1, 600, 900, 2⟩, ⟨11, .p3, 600, 900, 3⟩, ⟨12, .p3, 600, 900, 4⟩], counter := 7 }
    pdi := { instrument := some ⟨6, .fromIdle, .t3, some ⟨false, false⟩, some ⟨true, true⟩, none⟩, queue := [⟨8, .host, 10⟩] } }

/-- STANDBY with one port in each state that STANDBY knows. -/
def day : State :=
  let s := State.withPorts (past .standby .noWindow 3600) dayPorts
  { s with
    fga := { queue := [⟨4, .p5, 6, 900⟩], grants := [⟨5, .p5, 600, 900, 1⟩, ⟨9, .p3, 600, 900, 2⟩], counter := 7 }
    pdi := { instrument := some ⟨6, .fromLocked, .t3, some ⟨false, false⟩, some ⟨true, true⟩, none⟩
             queue := [⟨10, .host, 10⟩, ⟨7, .host, 11⟩, ⟨8, .repeatedTrip, 12⟩] } }

/-- A day on which the instrument is idle. -/
def quietDay : State :=
  { day with
    ports := day.ports.set 6 { made 6 .lifeline with state := .locked, lockReason := some .lineFault }
    pdi := { instrument := none, queue := [⟨7, .host, 11⟩, ⟨8, .repeatedTrip, 12⟩, ⟨11, .host, 13⟩] } }

/-- An outage in AUTONOMOUS. -/
def alone : State := { night with hlk := { night.hlk with supervision := .autonomous, window := .noWindow } }

/-- An outage in RESERVE, with two lifeline ports fed or queued. -/
def lean : State :=
  let s := State.withPorts (past .outage (.long 300) 300) fun p =>
    match p.val with
    | 1 => { madeFed p .lifeline with term := .call }
    | 2 => { made p .lifeline with state := .queued, hold := true }
    | 3 => { madeIn p .waking with checkin := some 5 }
    | 4 => { madeIn p .awake with term := .call }
    | 5 => madeTested p .standard
    | 6 => made p .lifeline
    | 7 => { madeRetry p with term := .call }
    | _ => resetPort p
  { s with
    cac := { s.cac with stage := .reserve }
    fga := { queue := [⟨2, .p2, 3, 900⟩], grants := [⟨1, .p1, 600, 900, 1⟩], counter := 3 }
    pdi := { instrument := some ⟨5, .fromIdle, .t1, none, none, none⟩, queue := [] } }

/-- An outage in EXHAUSTED. -/
def spent : State :=
  let s := State.withPorts (past .outage (.long 300) 300) fun p =>
    match p.val with
    | 1 => made p .lifeline
    | 2 => { madeIn p .awake with term := .call }
    | 3 => { made p .lifeline with state := .retry, term := .call, switch := { trips := 1, backoff := some 0 } }
    | _ => resetPort p
  { s with cac := { s.cac with stage := .exhausted }, pdi := { instrument := none, queue := [⟨1, .host, 10⟩] } }

theorem night_sound : night.PortsSound := by refine ⟨?_, ?_, ?_, ?_, ?_, ?_, ?_, ?_⟩ <;> decide
theorem day_sound : day.PortsSound := by refine ⟨?_, ?_, ?_, ?_, ?_, ?_, ?_, ?_⟩ <;> decide
theorem quietDay_sound : quietDay.PortsSound := by refine ⟨?_, ?_, ?_, ?_, ?_, ?_, ?_, ?_⟩ <;> decide
theorem alone_sound : alone.PortsSound := by refine ⟨?_, ?_, ?_, ?_, ?_, ?_, ?_, ?_⟩ <;> decide
theorem lean_sound : lean.PortsSound := by refine ⟨?_, ?_, ?_, ?_, ?_, ?_, ?_, ?_⟩ <;> decide
theorem spent_sound : spent.PortsSound := by refine ⟨?_, ?_, ?_, ?_, ?_, ?_, ?_, ?_⟩ <;> decide
theorem reset_sound : State.reset.PortsSound := by refine ⟨?_, ?_, ?_, ?_, ?_, ?_, ?_, ?_⟩ <;> decide

/-! ### Well-formedness refuses what no frame or message carries -/

theorem test_wf_params : (Instr.setAccountParams { defaultParams with ratedCapacity := 65536 }).wellFormed = false := by decide
theorem test_wf_params_byte : (Instr.setAccountParams { defaultParams with depthLimit := 256 }).wellFormed = false := by decide
theorem test_wf_profile : (Instr.setProfile ⟨256, 1, 2, 900, 120, 1, 600, 30⟩).wellFormed = false := by decide
theorem test_wf_profile_interval : (Instr.setProfile ⟨5, 1, 2, 4294967296, 120, 1, 600, 30⟩).wellFormed = false := by decide
theorem test_wf_ports :
    [Instr.getPort 256, .clearLockout 256, .getNotice 256, .getSchedule 256, .wake 256 0, .wake 0 256, .feed 256, .release 256,
      .lineTest 256, .cellTest 256 0, .cellTest 0 256, .presence 256].all (fun c => !c.wellFormed) = true := by decide
theorem test_wf_messages :
    [Instr.checkin 0 false 0 .awake 65536, .cellReport 0 false 65536 0 0, .cellReport 0 false 0 65536 0,
      .cellReport 0 false 0 0 65536].all (fun c => !c.wellFormed) = true := by decide
theorem test_wf_unknown_is_known : (Instr.unknownRequest 0x02#8 []).wellFormed = false := by decide
theorem test_wf_unknown_too_long : (Instr.unknownRequest 0x7F#8 (List.replicate 60 0#8)).wellFormed = false := by decide
theorem test_wf_accepts :
    [Instr.unknownRequest 0x7F#8 [], .setProfile ⟨255, 1, 2, 900, 120, 1, 600, 30⟩, .wake 255 255, .checkin 15 true 0 .call 65535].all
      (·.wellFormed) = true := by decide

/-! ### Decoding: words written out from R62, R66 and R180 -/

/-- R62: kind 1 and length 9 are 0001 and 1001 at positions 3, 5, 6, 7 and 9 to 12; with the correction bits at 1, 2, 4 and 8 and the
overall parity at 13 the thirteen positions are 0 1 0 0 0 0 1 0 1 0 0 1 0 in the order sent. -/
theorem test_header_word : headerOf 0x19#8 = 0x0852#13 := by decide
theorem test_header_read : judgeHeader 0x0852#13 = .used 0x19#8 false := by decide
/-- The receiver's worked sequence: an error at position 6 has syndrome 6 and odd overall parity. -/
theorem test_header_position_6 :
    (syndrome (invert 0x0852#13 6), overallOdd (invert 0x0852#13 6)) = (6, true) := by decide
/-- The receiver's worked sequence: errors at positions 3 and 9 have syndrome 10 and even overall parity. -/
theorem test_header_positions_3_and_9 :
    (syndrome (invert (invert 0x0852#13 3) 9), overallOdd (invert (invert 0x0852#13 3) 9)) = (10, false) := by decide

theorem test_crc_notice : crcOf [0x22#8, 0x01#8, 0x00#8] = 0x4A#8 := by decide
theorem test_crc_checkin :
    crcOf [0x19#8, 0x01#8, 0x02#8, 0x03#8, 0x04#8, 0x05#8, 0x06#8, 0x02#8, 0x2E#8, 0xE0#8] = 0xEE#8 := by decide

theorem test_decode_checkin :
    messageOf 5 0x0852#13 [0x01#8, 0x02#8, 0x03#8, 0x04#8, 0x05#8, 0x06#8, 0x02#8, 0x2E#8, 0xE0#8, 0xEE#8]
      = .checkin 5 false 0x010203040506#48 .awake 12000 := by decide
theorem test_decode_notice : messageOf 5 (headerOf 0x22#8) [0x01#8, 0x00#8, 0x4A#8] = .notice 5 false 1#8 0#8 := by decide
theorem test_decode_report :
    messageOf 5 (headerOf 0x36#8) [0x32#8, 0x64#8, 0x30#8, 0x84#8, 0x05#8, 0xDC#8, 0x58#8]
      = .cellReport 5 false 12900 12420 1500 := by decide
theorem test_decode_status : frameOf [0xA6#8, 0x01#8, 0x02#8, 0xFD#8] = some .getStatus := by decide
theorem test_decode_wake : frameOf [0xA6#8, 0x03#8, 0x20#8, 0x07#8, 0x01#8, 0xD5#8] = some (.wake 7 1) := by decide
theorem test_decode_enables :
    frameOf [0xA6#8, 0x04#8, 0x42#8, 0x01#8, 0xFF#8, 0xFF#8, 0xBB#8] = some (.setEventEnable 0x01FFFF#24) := by decide
theorem test_decode_presence : frameOf [0xA6#8, 0x02#8, 0x50#8, 0x01#8, 0xAD#8] = some (.presence 1) := by decide
theorem test_decode_bad_sum : frameOf [0xA6#8, 0x01#8, 0x02#8, 0xFC#8] = some (.frameRejected .badSum) := by decide
theorem test_decode_bad_length : frameOf [0xA6#8, 0x3D#8] = some (.frameRejected .badLength) := by decide
theorem test_decode_all_ones : frameOf [0xA6#8, 0x01#8, 0xFF#8, 0x00#8] = some (.frameRejected .allOnes) := by decide
theorem test_decode_wrong_length : frameOf [0xA6#8, 0x02#8, 0x02#8, 0x00#8, 0xFC#8] = some (.unknownRequest 0x02#8 [0x00#8]) := by
  decide
theorem test_table_word : decodeTableWord 8 0xA6 = none := by decide

/-! ### The wires: bytes and bits one by one -/

/-- R178: what stands before the start byte is ignored, and the frame is the command as its check byte arrives. -/
theorem test_rxd_frame :
    FrameRx.hunt.takeAll ([0x01#8, 0xFD#8, 0xA6#8, 0x01#8, 0x02#8, 0xFD#8].map .byte) = (.hunt, [.getStatus]) := by decide
/-- R178: after a framing error in the body the remaining bytes are ignored, unless one is the start byte. -/
theorem test_rxd_framing_error :
    FrameRx.hunt.takeAll [.byte 0xA6#8, .byte 0x02#8, .framingError, .byte 0x50#8, .byte 0xA6#8] =
      (.length, [.frameRejected .framingError]) := by decide
/-- R62: the sync 0xC5A3, the header of kind 2 and length 2, LOCAL_POWER_LOST with detail 0, and the check, as bits. -/
theorem test_pair_bits :
    ((RxState.hunt []).hearAll 5
      ([true, true, false, false, false, true, false, true, true, false, true, false, false, false, true, true]
        ++ fieldBits (headerOf 0x22#8) ++ ([0x01#8, 0x00#8, 0x4A#8] : List Byte).flatMap fieldBits)).2
      = [.notice 5 false 1#8 0#8] := by decide
/-- R67: a header that declares a body of 13 bytes is uncorrectable, and as a bit of it was corrected it is counted as corrected too. -/
theorem test_pair_header_rejected :
    ((RxState.hunt []).hearAll 5 (fieldBits syncPattern ++ fieldBits (invert (headerOf 0x2D#8) 7))).2 = [.headerRejected 5 true] := by
  decide
/-- R178: a frame begun before the discard of a break has been taken goes on. -/
theorem test_rxd_next_frame :
    ((run .lineBreak ((night.rxd .lineBreak).rxd (.byte 0xA6#8))).hlk.frameRx,
      (run .lineBreak ((night.rxd .lineBreak).rxd (.byte 0xA6#8))).hlk.priorFault) = (.length, true) := by decide
/-- R65: in HUNT a bit is compared together with the 15 before it, those of a message that was cut off among them. -/
theorem test_pair_bits_kept :
    (((RxState.hunt []).hearAll 5 (fieldBits syncPattern ++ (fieldBits syncPattern).take 8)).1.loseTiming 5).1.hearAll 5
      ((fieldBits syncPattern).drop 8) = (.header [], []) := by decide
/-- R61: a FEED_STATE takes 45 bits, and a wake pattern of 250 ms 300. -/
theorem test_sending_lengths : ((Sending.feedState true).bits.length, Sending.wakePattern.bits.length) = (45, 300) := by decide

/-! ### The charge account: the worked cases of its chapter -/

/-- An outage with four LIFELINE ports idle, and three STANDARD ports fed at averages of 450, 520 and 610 mA if `fed`. -/
def accountAt (e used : Nat) (credit : Int) (fed : Bool) : State :=
  let s := State.withPorts (past .outage (.long 300) 300) fun p =>
    if p.val < 4 then made p .lifeline
    else if fed && p.val < 7 then
      { madeFed p .standard with
        term := .awake, switch := { closed := true, average := if p.val = 4 then 450 else if p.val = 5 then 520 else 610 } }
    else resetPort p
  { s with
    sup := { s.sup with outageTime := e }
    cac := { s.cac with stage := .openStage, qUsed := used, credit := credit }
    fga := { s.fga with
      grants := if fed then [⟨4, .p5, 600, 0, 1⟩, ⟨5, .p5, 600, 0, 2⟩, ⟨6, .p5, 600, 0, 3⟩] else [], counter := 3 } }

/-- U, R, D, H, A, cap and the candidate of the last sample. -/
def figuresOf (s : State) : List Nat × Option Stage :=
  match s.cac.figures with
  | some f => ([f.usable, f.reserve, f.spendable, f.horizon, f.allowance, f.cap], s.cac.candidate)
  | none => ([], s.cac.candidate)

theorem test_account_case_1 :
    figuresOf (run (.accountSample 50000 1800 true) (accountAt 3600 6478200 10000 true))
      = ([108720000, 7344000, 101376000, 25200, 4022, 2413200], some .openStage) := by decide
theorem test_account_case_1_credit :
    (run (.accountSample 50000 1800 true) (accountAt 3600 6478200 10000 true)).cac.credit = 12442 := by decide
theorem test_account_case_2 :
    figuresOf (run (.accountSample 50000 0 true) (accountAt 27000 100000000 0 false))
      = ([15200000, 4536000, 10664000, 1800, 5924, 3554400], some .openStage) := by decide
theorem test_account_case_3 :
    figuresOf (run (.accountSample 50000 0 true) (accountAt 30000 108000000 0 false))
      = ([7200000, 4320000, 2880000, 900, 3200, 1920000], some .conserve) := by decide
theorem test_account_case_4 :
    figuresOf (run (.accountSample 50000 0 true) (accountAt 30000 111500000 500 false))
      = ([3700000, 4320000, 0, 900, 0, 0], some .reserve) := by decide
/-- R25's example: -3,000 mA takes 2,812 mA·s off Q_used. -/
theorem test_account_charging :
    (run (.accountSample 50000 (-3000) true) (accountAt 3600 1000000 0 false)).cac.qUsed = 997188 := by decide
/-- The worked case of a rated capacity lowered: Q_used is clamped to the new limit and the stage is EXHAUSTED at once. -/
theorem test_account_lowered :
    (fun t : State => (t.cac.qLimit, t.cac.qUsed, t.cac.stage, t.cac.credit))
      (run (.accountSample 50000 2000 true)
        (let s := accountAt 27001 100000000 5924 false
         { s with cac := { s.cac with params := { s.cac.params with ratedCapacity := 30 } } }))
      = (86400000, 86400000, .exhausted, 0) := by decide
/-- The promotion run: the 60th less severe candidate in a row is taken. -/
theorem test_promotion :
    (fun t : State => (t.cac.stage, t.cac.promotion))
      (run (.accountSample 50000 0 true)
        (let s := accountAt 3600 6480000 0 false
         { s with cac := { s.cac with stage := .conserve, promotion := 59 } })) = (.openStage, 0) := by decide
/-- The worked case of a restart in an outage: Q_used and E are those of the checkpoint. -/
theorem test_recovery_resumes :
    (fun t : State => (t.sup.mode, t.sup.outageTime, t.cac.qUsed, t.cac.stage))
      (run .recoveryEnd { State.reset with
        pins := { State.reset.pins with mains := false }
        nvs := { resetNvs with ring := resetNvs.ring.set 4 (some ⟨9, 90000000, .outage, 14700, 0⟩) } })
      = (.outage, 14700, 90000000, .noStage) := by decide
/-- R17: with no valid checkpoint Q_used is 57,600,000 under the default parameters. -/
theorem test_recovery_half : (run .recoveryEnd State.reset).cac.qUsed = 57600000 := by decide
/-- R21's example: weak 11,400 and fail 11,900 store a fail voltage of 11,400; a depth limit of 40 stores 50. -/
theorem test_params_clamped :
    (fun t : State => (t.cac.params.cellFailVolt, t.cac.params.depthLimit, t.hlk.replies.map (·.result)))
      (run (.setAccountParams { defaultParams with cellWeakVolt := 11400, cellFailVolt := 11900, depthLimit := 40 }) day)
      = (11400, 50, [.okClamped]) := by decide

/-! ### Supply, the port table and the host link -/

/-- The hesitant return: a second rise starts the return confirmation again from the full 30 s. -/
theorem test_mains_rise : (run .mainsRise night).sup.returnConf = some 30 := by decide
theorem test_mains_fall : (run .mainsFall day).sup.lossConf = some 2000 := by decide
/-- R11: in OUTAGE the checkpoint timer counts by E, not by part time. -/
theorem test_outage_checkpoint_timer :
    ((run .partTimeTick night).nvs.cpTimer, (run .outageTimeTick night).nvs.cpTimer) = (some 300, some 299) := by decide
/-- The long outage: the watch that runs out forces EXHAUSTED. -/
theorem test_bank_low_watch :
    (fun t : State => (t.cac.stage, t.sup.forced, kindSet t.hlk.flags 4))
      (run .bankLowWatchExpiry { night with sup := { night.sup with bankWatch := some 0 } }) = (.exhausted, true, true) := by decide
/-- The port table's worked example of clamped values, for port 6 OFF. -/
theorem test_profile_clamped :
    (fun t : State => ((t.port 0).profile, t.hlk.replies.map (·.result)))
      (run (.setProfile ⟨0, 1, 2, 30, 2000, 0, 80, 0⟩) day)
      = (⟨true, .standard, 60, 1800, false, 100, 1⟩, [.okClamped]) := by decide
theorem test_profile_bad_class :
    (fun t : State => ((t.port 0).profile, t.hlk.replies.map (·.result)))
      (run (.setProfile ⟨0, 1, 4, 30, 2000, 0, 80, 0⟩) day) = (defaultProfile, [.badValue]) := by decide
/-- R183: part code 0x16, revision 1, 16 ports, the straps low. -/
theorem test_identity :
    ((run .getIdentity State.reset).hlk.replies.map fun r => (r.code, r.data)) = [(0x81#8, [0x16#8, 1#8, 16#8, 0#8, 0#8])] := by
  decide
/-- The presence sequence, at E = 40, 72, 80 and 90. -/
def presenceState (sup : Supervision) (token : Nat) (w : Window) : State :=
  let s := past .outage w 300
  { s with hlk := { s.hlk with supervision := sup, token := token } }
theorem test_presence_accepted :
    (fun t : State => (t.hlk.supervision, t.hlk.token, t.hlk.window)) (run (.presence 1) (presenceState .supervised 1 (.long 260)))
      = (.supervised, 2, .normal 60 5) := by decide
theorem test_presence_too_early :
    (fun t : State => (t.hlk.supervision, t.hlk.token, t.hlk.window, kindSet t.hlk.flags 7))
      (run (.presence 1) (presenceState .supervised 1 (.normal 58 3))) = (.autonomous, 1, .noWindow, true) := by decide
/-- R191: a request taken exactly at the early bound finds the bound passed. -/
theorem test_presence_at_bound :
    (fun t : State => (t.hlk.supervision, t.hlk.token, t.hlk.window))
      (run (.presence 2) (run .presenceEarlyBound (presenceState .supervised 2 (.normal 55 1)))) = (.supervised, 1, .normal 60 5) := by decide
/-- R190: the fifth tick, which may come up to a second before the bound, does not make it pass. -/
theorem test_tick_before_bound :
    (run .partTimeTick (presenceState .supervised 2 (.normal 56 1))).hlk.window = .normal 55 1 := by decide
theorem test_presence_ignored :
    (run (.presence 2) (presenceState .autonomous 1 .noWindow)).hlk.replies.map (·.data) = [[1#8, 1#8]] := by decide
theorem test_presence_resumed :
    (fun t : State => (t.hlk.supervision, t.hlk.token, t.hlk.window)) (run (.presence 1) (presenceState .autonomous 1 .noWindow))
      = (.supervised, 2, .long 300) := by decide
/-- The end of the presence sequence: of OUTAGE_BEGIN, PRESENCE_LOST and STAGE_CHANGE the first event is STAGE_CHANGE. -/
theorem test_first_event : firstEvent { resetHlk with flags := 0x00078#17 } = some (4, none) := by decide
theorem test_attn_released :
    (run (.clearEvents 0x010000#24 {}) { State.reset with sup := { resetSup with mode := .standby } }).attn = false := by decide

/-! ### The line, waking and check-ins -/

/-- The receiver's sequence: a second notice replaces the first and sets overrun. -/
theorem test_notice_overrun :
    ((run (.notice 11 false 2#8 0#8)
      (day.setPort 11 { day.port 11 with mailbox := ⟨some ⟨1#8, 0#8, 120⟩, false⟩ })).port 11).mailbox
      = ⟨some ⟨2#8, 0#8, 1000⟩, true⟩ := by decide
/-- R76: the code, its presence and raw value for OTHER, the detail, the part time of arrival, and the overrun flag. -/
theorem test_notice_other :
    mailboxData ⟨some ⟨9#8, 2#8, 0x01020304⟩, false⟩ = [1#8, 9#8, 1#8, 9#8, 2#8, 1#8, 2#8, 3#8, 4#8, 0#8] := by decide
theorem test_header_corrected_counts :
    ((run (.checkFailure 11 true) day).port 11).counters = ⟨0, 1, 0, 1, 0⟩ := by decide
/-- Three sendings on one pair: UNFED ends and the order begins at once, the receiver still gated. -/
theorem test_next_sending :
    (fun q : Port => (q.tx.sending, q.tx.orderSlot, q.rx))
      ((run (.feedStateEnd 1)
        (day.setPort 1 { day.port 1 with rx := .gated, tx := ⟨false, none, some 30, some (.feedState false)⟩ })).port 1)
      = (some (.cellOrder 30), none, .gated) := by decide
/-- Three sendings: the order ends, and the report timer starts with 40 s. -/
theorem test_order_end :
    (fun q : Port => (q.cell.phase, q.cell.report, q.rx))
      ((run (.cellTestOrderEnd 2)
        (day.setPort 2 { day.port 2 with rx := .gated, tx := ⟨false, none, none, some (.cellOrder 30)⟩ })).port 2)
      = (.loading, some 40, .hunt) := by decide
/-- The first three minutes: the staggered entries of an outage, in effective stage CONSERVE. -/
theorem test_stagger :
    (let t := run .lossConfirmationExpiry { day with sup := { day.sup with lossConf := some 0 } }
     (t.wakeOf 0, t.wakeOf 1, t.wakeOf 2, t.wakeOf 3)) = (none, some 34, some 38, some 42) := by decide
/-- The first three minutes, E = 33: a LIFELINE port that feeds on wake is granted at P2, due again at E + 900. -/
theorem test_checkin_fed :
    (let t := run (.checkin 1 false 7 .awake 12600)
       { State.withPorts (past .outage (.long 300) 300) (fun p =>
          if p.val = 1 then { made p .lifeline with state := .waking, checkin := some 17 } else resetPort p) with
         sup := { resetSup with mode := .outage, outageTime := 33 }, cac := { resetCac with stage := .openStage } }
     ((t.port 1).state, t.wakeOf 1, (t.port 1).burst, (t.port 1).silence)) = (.fed, some 933, some 120, some 180) := by decide
/-- The first three minutes, E = 40: no cause, so the port goes to AWAKE. -/
theorem test_checkin_awake :
    (let t := run (.checkin 1 false 7 .awake 12700)
       { State.withPorts (past .outage (.long 300) 300) (fun p =>
          if p.val = 1 then
            { made p .standard with
              state := .waking, checkin := some 17, profile := { defaultProfile with enabled := true, feedOnWake := false } }
          else resetPort p) with
         sup := { resetSup with mode := .outage, outageTime := 40 }, cac := { resetCac with stage := .openStage } }
     ((t.port 1).state, t.wakeOf 1, (t.port 1).burst)) = (.awake, some 940, some 120) := by decide
/-- The first three minutes, E = 58: a missed check-in. -/
theorem test_missed :
    (let t := run (.checkinTimerExpiry 2) night
     ((t.port 2).state, (t.port 2).term, (t.port 2).missed, t.wakeOf 2, t.pdi.queue.map (·.port)))
      = (.idle, .unknown, 3, some 1400, [8, 2]) := by decide

/-! ### Grants, trips and tests -/

/-- The worked sequence of a lifeline call: four grants, port 11 waiting, port 3 about to call. -/
def callState : State :=
  let s := State.withPorts (past .outage (.long 300) 300) fun p =>
    match p.val with
    | 1 => { madeFed p .lifeline with term := .awake }
    | 3 =>
      { made p .lifeline with
        state := .awake, term := .awake, identity := some 7
        profile := { defaultProfile with enabled := true, cls := .lifeline, feedLimit := 1000, feedOnWake := false } }
    | 4 => { madeFed p .standard with term := .awake }
    | 6 => { madeFed p .standard with term := .awake }
    | 9 => { madeFed p .standard with term := .call }
    | 11 => { madeIn p .queued with term := .awake }
    | _ => resetPort p
  { s with
    cac := { s.cac with
      stage := .openStage, params := { defaultParams with slotCeiling := 4, bankCeiling := 2400 } }
    fga :=
      { queue := [⟨11, .p5, 219, 0⟩]
        grants := [⟨1, .p2, 600, 0, 210⟩, ⟨4, .p5, 600, 0, 215⟩, ⟨9, .p4, 600, 0, 218⟩, ⟨6, .p5, 600, 0, 221⟩], counter := 221 } }

theorem test_call_preempts_grants :
    ((run (.checkin 3 false 7 .call 12000) callState).fga.grants.map fun g => (g.port, g.level, g.limit, g.number))
      = [(1, .p2, 600, 210), (9, .p4, 600, 218), (3, .p1, 1000, 225)] := by decide
theorem test_call_preempts_queue :
    ((run (.checkin 3 false 7 .call 12000) callState).fga.queue.map fun e => (e.port, e.level, e.arrival))
      = [(11, .p5, 219), (6, .p5, 223), (4, .p5, 224)] := by decide

/-- R113, R126: a grant closes the switch with 200 ms of blanking and asks for FEED_STATE FED. -/
theorem test_feed_granted :
    (fun q : Port => (q.state, q.switch.closed, q.switch.blanking, q.switch.clean, q.tx.feedSlot))
      ((run (.feed 3) night).port 3) = (.fed, true, some 200, some 60, some true) := by decide
/-- R105: an AWAKE port that a FEED queues takes a new arrival, here with no slot free. -/
theorem test_feed_joins :
    ((run (.feed 3) { night with cac := { night.cac with params := { night.cac.params with slotCeiling := 4 } } }).fga.queue.map
      fun e => (e.port, e.level, e.arrival)) = [(13, .p3, 7), (3, .p3, 8), (4, .p5, 6)] := by decide
/-- R113, R127: a release opens the switch, leaves its timers idle and asks for FEED_STATE UNFED. -/
theorem test_release_opens :
    (fun q : Port => (q.state, q.switch.closed, q.switch.blanking, q.switch.clean, q.tx.feedSlot))
      ((run (.release 11) night).port 11) = (.idle, false, none, none, some false) := by decide

/-- The trip ladder: port 13 of the worked sequence, fed with a count of trips behind it. -/
def ladder (n : Nat) : State :=
  let s := State.withPorts (past .outage (.long 300) 300) fun p =>
    if p.val = 13 then
      { madeFed p .lifeline with
        term := .call, tripsTotal := 7 + n, switch := { closed := true, trips := n, overload := some 0, clean := some 30 } }
    else resetPort p
  { s with cac := { s.cac with stage := .openStage }, fga := { queue := [], grants := [⟨13, .p1, 800, 0, 1⟩], counter := 1 } }
def rung (s : State) : PortState × Nat × Nat × Option Nat :=
  ((s.port 13).state, (s.port 13).switch.trips, (s.port 13).tripsTotal, (s.port 13).switch.backoff)

theorem test_trip_1 : rung (run (.overloadTimerExpiry 13) (ladder 0)) = (.retry, 1, 8, some 5) := by decide
theorem test_trip_2 : rung (run (.shortDetected 13) (ladder 1)) = (.retry, 2, 9, some 20) := by decide
theorem test_trip_3 : rung (run (.overloadTimerExpiry 13) (ladder 2)) = (.retry, 3, 10, some 80) := by decide
theorem test_trip_4 : rung (run (.shortDetected 13) (ladder 3)) = (.locked, 4, 11, none) := by decide
/-- The ladder, at 0.200 s: blanking ends with the current above the limit, and the overload timer starts. -/
theorem test_blanking_end : ((run (.inrushBlankingExpiry 11 true) night).port 11).switch.overload = some 500 := by decide
/-- The forgotten count: 60 s of clean feed clear it. -/
theorem test_clean_feed : ((run (.cleanFeedExpiry 12) night).port 12).switch.trips = 0 := by decide
/-- R128: an open switch reads 0, and no sample is above 3,000 mA. -/
theorem test_feed_samples :
    (let t := run (.feedCurrentSample (Vector.replicate 16 5000)) night
     ((t.port 5).switch.average, (t.port 1).switch.average)) = (300, 0) := by decide

/-- The worked verdicts of the cell tests: the report of each row at port 3, whose test is loading. -/
def verdictOf (vOpen vLoaded iLoad : Nat) : Option (CellVerdict × Option Nat) :=
  ((run (.cellReport 3 false vOpen vLoaded iLoad) day).port 3).cellRecord.map fun r => (r.verdict, r.resistance)
theorem test_verdict_weak : verdictOf 12900 12420 1500 = some (.weak, some 320) := by decide
theorem test_verdict_good : verdictOf 13100 12860 1600 = some (.good, some 150) := by decide
theorem test_verdict_boundary : verdictOf 12000 11300 2800 = some (.weak, some 250) := by decide
theorem test_verdict_failed : verdictOf 11600 10700 3000 = some (.failed, some 300) := by decide
theorem test_verdict_negative : verdictOf 12500 12600 900 = some (.good, some 0) := by decide
theorem test_verdict_capped : verdictOf 65535 0 50 = some (.failed, some 65535) := by decide
theorem test_verdict_invalid : verdictOf 12800 12800 40 = some (.invalid, none) := by decide
/-- R148: no report came. -/
theorem test_no_response :
    ((run (.reportTimerExpiry 3) day).port 3).cellRecord = some ⟨.noResponse, none, none, 1000⟩ := by decide

/-- The busy second, part time 50,020.100: the oldest entry whose port is IDLE or LOCKED is taken, ahead of an older one. -/
theorem test_line_test_taken :
    (let t := run .lineTestTake quietDay
     (t.pdi.instrument.map (·.port), t.pdi.queue.map (·.port), (t.port 8).state)) = (some 8, [7, 11], .lineTest) := by decide
/-- The busy second: readings LOW LOW, HIGH HIGH, LOW HIGH are NORMAL, and the locked port is unlocked. -/
theorem test_line_normal :
    (fun q : Port => (q.state, q.lockReason, q.lineRecord.map (·.verdict)))
      ((run (.lineTestComplete false true) day).port 6) = (.idle, none, some .normal) := by decide
/-- R161's rows for the T3 readings HIGH HIGH and LOW LOW after LOW LOW, HIGH HIGH. -/
theorem test_line_pair_short :
    (fun q : Port => (q.state, q.lockReason, q.lineRecord.map (·.verdict)))
      ((run (.lineTestComplete true true) night).port 6) = (.locked, some .lineFault, some .pairShort) := by decide
/-- R160: in T3 the instrument sinks on A and sources on B, on the port under test alone. -/
theorem test_currents : (night.testCurrents 6, night.testCurrents 5) = (some (.sink, .source), none) := by decide
theorem test_line_indeterminate :
    (fun q : Port => (q.state, q.lockReason, q.lineRecord.map (·.verdict)))
      ((run (.lineTestComplete false false) night).port 6) = (.idle, none, some .indeterminate) := by decide

/-! ### Witnesses: for each statement with hypotheses, a state and operands that meet them, clause by clause -/

/-- A state whose only waiting command is this one. -/
def State.waiting (s : State) (c : Instr) : State := { s with pending := [c] }

/-- A state with some replies in the queue. -/
def State.withReplies (s : State) (r : List Reply) : State := { s with hlk := { s.hlk with replies := r } }

/-- A state with an activity at the store. -/
def State.storing (s : State) (a : Activity) : State :=
  { s with nvs := { s.nvs with activity := a, ring := s.nvs.ring.set 31 none } }

/-- A profile request for an enabled port. -/
def asks (port enabled cls interval : Nat) : ProfileRequest := ⟨port, enabled, cls, interval, 120, 1, 600, 30⟩

def anArea : AreaContents := ⟨Vector.replicate 16 defaultProfile, defaultParams, BitVec.allOnes 17⟩
def aCheckpoint : Checkpoint := ⟨1, 0, .outage, 500, 0⟩
def aReply : Reply := ⟨0x82#8, 0#8, .ok, []⟩

theorem day_account : day.AccountSound := by refine ⟨⟨?_, ?_, ?_, ?_⟩, ?_⟩ <;> decide
theorem night_account : night.AccountSound := by refine ⟨⟨?_, ?_, ?_, ?_⟩, ?_⟩ <;> decide
theorem day_store : day.StoreSound := by decide
theorem night_store : night.StoreSound := by decide

theorem witness_StepRunsFrontCommand : State.reset.pending = [] := by decide

theorem witness_HostLinkKept :
    (State.waiting night (.checkin 1 false 7 .call 12000)).EventsAgree
      ∧ (State.waiting night (.checkin 1 false 7 .call 12000)).RepliesBounded
      ∧ (State.waiting night (.checkin 1 false 7 .call 12000)).PresenceSound
      ∧ ∃ t, step (State.waiting night (.checkin 1 false 7 .call 12000)) = .next t :=
  ⟨by decide, by decide, by decide, _, rfl⟩

theorem witness_AccountKept :
    (State.waiting night (.accountSample 50000 1800 true)).AccountSound
      ∧ ∃ t, step (State.waiting night (.accountSample 50000 1800 true)) = .next t :=
  ⟨night_account, _, rfl⟩

theorem witness_StoreKept :
    (State.waiting night .checkpointTimerExpiry).PortsSound ∧ (State.waiting night .checkpointTimerExpiry).StoreSound
      ∧ ∃ t, step (State.waiting night .checkpointTimerExpiry) = .next t :=
  ⟨night_sound, by decide, _, rfl⟩

theorem witness_PortsKept :
    (State.waiting night (.checkin 1 false 7 .call 12000)).PortsSound
      ∧ ∃ t, step (State.waiting night (.checkin 1 false 7 .call 12000)) = .next t :=
  ⟨night_sound, _, rfl⟩

theorem witness_LockStrapProtectsArea :
    (let s := State.waiting { day with straps := ⟨true, false⟩ } .saveProfiles
     s.straps.lockHigh = true ∧ s.nvs.activity.isSaving = false ∧ s.nvs.waitingSave = false)
      ∧ ∃ t, step (State.waiting { day with straps := ⟨true, false⟩ } .saveProfiles) = .next t :=
  ⟨by decide, _, rfl⟩

/-- The part stopped, and held in reset. -/
def stopped : State := { State.reset with cond := .stopped }
def held : State := { State.reset with cond := .held }

theorem witness_SupplyAndResets :
    night.cond ≠ .stopped ∧ held.cond ≠ .stopped ∧ night.cond = .running ∧ stopped.cond ≠ .running ∧ held.cond ≠ .running
      ∧ (stopped.cond = .stopped ∧ stopped.pins.rstn = true)
      ∧ (let s := { stopped with pins := { stopped.pins with rstn := false } }; s.cond = .stopped ∧ s.pins.rstn = false)
      ∧ held.cond = .held
      ∧ (let s := State.withReplies night [⟨0xE1#8, 0#8, .ok, []⟩, aReply]
         s.cond = .running ∧ s.hlk.replies = [⟨0xE1#8, 0#8, .ok, []⟩, aReply]) := by decide

theorem witness_ClocksCount :
    (night.cond = .running ∧ night.sup.mode = .outage) ∧ held.cond ≠ .running ∧ (day.cond = .running ∧ day.sup.mode ≠ .outage) := by
  decide

theorem witness_OnlyTicksMoveClocks :
    (night.ModeSound ∧ Instr.mainsRise ≠ .partTimeTick ∧ Instr.mainsRise ≠ .outageTimeTick
      ∧ (run .mainsRise night).sup.mode = night.sup.mode) ∧ ∃ t, exec .mainsRise night = .next t :=
  ⟨by decide, _, rfl⟩

theorem witness_SupplyEdges :
    State.reset.cond = .running ∧ State.reset.sup.mode = .start ∧ day.cond = .running ∧ day.sup.mode = .standby
      ∧ night.cond = .running ∧ night.sup.mode = .outage
      ∧ (let s := { day with cac := { day.cac with float := .running 60 } }
         s.cond = .running ∧ s.cac.float = .running 60)
      ∧ State.reset.sup.mode ≠ .standby ∧ night.sup.mode ≠ .standby ∧ stopped.cond ≠ .running := by decide

/-- A day on which the loss confirmation has run down. -/
def dusk : State := { day with sup := { day.sup with lossConf := some 0 } }
theorem dusk_sound : dusk.PortsSound := by refine ⟨?_, ?_, ?_, ?_, ?_, ?_, ?_, ?_⟩ <;> decide
theorem dusk_store : dusk.StoreSound := by decide

theorem witness_OutageBegins :
    dusk.PortsSound ∧ (dusk.cond = .running ∧ dusk.sup.mode = .standby ∧ dusk.sup.lossConf.isSome)
      ∧ (dusk.port 2).state = .cellTest ∧ ((dusk.port 4).state = .queued ∧ (dusk.port 4).hold = false)
      ∧ ((dusk.port 5).state = .fed ∧ (dusk.port 5).hold = false) ∧ ((dusk.port 9).state = .fed ∧ (dusk.port 9).hold = true)
      ∧ ((dusk.port 1).state ≠ .cellTest ∧ (dusk.port 1).state ≠ .queued ∧ (dusk.port 1).state ≠ .fed) :=
  ⟨dusk_sound, by decide⟩

theorem witness_OutageBeginReachesBlocks :
    dusk.PortsSound ∧ dusk.StoreSound ∧ dusk.sup.mode ≠ .outage ∧ (run .lossConfirmationExpiry dusk).sup.mode = .outage
      ∧ ∃ t, exec .lossConfirmationExpiry dusk = .next t :=
  ⟨dusk_sound, dusk_store, by decide, by decide, _, rfl⟩

/-- The end of a long outage, in which every periodic line test has come due. -/
def dawn : State := { night with sup := { night.sup with partTime := 90000, returnConf := some 0 } }

theorem witness_OutageEnds :
    dawn.PortsSound ∧ (dawn.cond = .running ∧ dawn.sup.mode = .outage ∧ dawn.sup.returnConf.isSome)
      ∧ (overdue dawn 1 = true ∧ ¬ testWaits dawn 1) ∧ (overdue dawn 8 = true ∧ testWaits dawn 8) ∧ overdue dawn 0 = false :=
  ⟨by refine ⟨?_, ?_, ?_, ?_, ?_, ?_, ?_, ?_⟩ <;> decide, by decide⟩

/-- R158: at an outage end every enabled port whose due time passed is asked for at once, in port order, behind the entries there. -/
theorem test_periodic_at_outage_end :
    (run .returnConfirmationExpiry dawn).pdi.queue.map (fun e => (e.port, e.source))
      = [(8, .host), (1, .periodic), (2, .periodic), (3, .periodic), (4, .periodic), (5, .periodic), (6, .periodic), (7, .periodic),
         (9, .periodic), (10, .periodic), (11, .periodic), (12, .periodic), (13, .periodic), (14, .periodic)] := by decide

/-- The start of a part with a profile area and a checkpoint, mains absent. -/
def started : State :=
  { State.reset with
    pins := { State.reset.pins with mains := false }
    nvs := { resetNvs with area := some anArea, ring := resetNvs.ring.set 31 (some aCheckpoint) } }
theorem started_sound : started.PortsSound := by refine ⟨?_, ?_, ?_, ?_, ?_, ?_, ?_, ?_⟩ <;> decide

theorem witness_OutageBeginReachesBlocks_start :
    started.PortsSound ∧ started.StoreSound ∧ started.sup.mode = .start
      ∧ exec .recoveryEnd started = .next (run .recoveryEnd started) ∧ (run .recoveryEnd started).sup.mode = .outage :=
  ⟨started_sound, by decide, by decide, rfl, by decide⟩

/-- The same with the mains back. -/
def returned : State := { started with pins := { started.pins with mains := true } }

theorem witness_RecoveryDecidesMode :
    (recoveryReads .recoveryEnd = some (true, true) ∧ atRecovery started ∧ started.StoreSound) ∧ started.PortsSound
      ∧ recoveryReads (.recoveryTimeout .both) = some (false, false) ∧ (atRecovery State.reset ∧ State.reset.StoreSound)
      ∧ State.reset.PortsSound :=
  ⟨by decide, started_sound, by decide, by decide, reset_sound⟩

theorem witness_RecoverySettlesPart :
    (recoveryReads (.recoveryTimeout .ring) = some (true, false) ∧ atRecovery started ∧ started.StoreSound) ∧ started.PortsSound
      ∧ (atRecovery State.reset ∧ State.reset.StoreSound) ∧ State.reset.PortsSound
      ∧ (run .recoveryEnd State.reset).nvs.activity.isWriting = false
      ∧ (started.pins.mains = false ∧ resumes (recoveredNow started true) = true ∧ resumes (recoveredNow started false) = false)
      ∧ (returned.pins.mains = true ∧ atRecovery returned ∧ returned.StoreSound ∧ resumes (recoveredNow returned true) = true)
      ∧ returned.PortsSound :=
  ⟨by decide, started_sound, by decide, reset_sound, by decide, by decide, by decide, by refine ⟨?_, ?_, ?_, ?_, ?_, ?_, ?_, ?_⟩ <;> decide⟩

/-- R152: an interrupted outage closed at the end of START lifts the due times of the reset to 21,600 s. -/
theorem test_recharge_hold_at_start : ((run .recoveryEnd returned).port 3).cell.due = 21600 := by decide

theorem witness_NewestCheckpointRecovered : recoveredCheckpoint started.nvs.ring = some (31, aCheckpoint) := by decide

theorem witness_BankLowForcing :
    (let s := { night with sup := { night.sup with bankWatch := some 0 } }
     s.PortsSound ∧ s.cond = .running ∧ s.sup.mode = .outage ∧ s.sup.bankWatch.isSome) :=
  ⟨by refine ⟨?_, ?_, ?_, ?_, ?_, ?_, ?_, ?_⟩ <;> decide, by decide⟩

theorem witness_SampleFormsFigures :
    day.PortsSound ∧ (day.AccountSound ∧ day.cond = .running ∧ day.sup.mode ≠ .start ∧ day.sup.mode = .standby)
      ∧ night.PortsSound ∧ night.AccountSound ∧ night.cond = .running ∧ night.sup.mode ≠ .start :=
  ⟨day_sound, ⟨day_account, by decide⟩, night_sound, night_account, by decide⟩

/-- An outage in stage OPEN whose credit the next sample spends, as its charge falls to the reserve. -/
def turning : State := { night with cac := { night.cac with qUsed := 115100000, credit := 5 } }

/-- An outage in stage CONSERVE. -/
def frugal : State := { night with cac := { night.cac with stage := .conserve } }
/-- The same with the next sample the 60th that asks for OPEN. -/
def easing : State := { frugal with cac := { frugal.cac with promotion := 59 } }
/-- An outage in stage OPEN with no credit. -/
def broke : State := { night with cac := { night.cac with credit := 0 } }
/-- Stage CONSERVE with three STANDARD ports that draw 3,000 mA each on a credit of 5. -/
def thirsty : State :=
  let s := State.withPorts frugal fun p =>
    let q := nightPorts p
    if q.state = .fed then { q with switch := { q.switch with average := 3000 } } else q
  { s with cac := { s.cac with credit := 5 } }

theorem witness_SampleGovernsStage :
    (day.AccountSound ∧ day.cond = .running ∧ day.sup.mode = .standby) ∧ day.PortsSound
      ∧ night.AccountSound ∧ night.PortsSound ∧ (night.cond = .running ∧ night.sup.mode = .outage)
      ∧ (let t := run (.accountSample 50000 0 true) night
         t.cac.stage = night.cac.stage ∧ t.eff = night.eff ∧ 0 < t.cac.credit)
      ∧ (let t := run (.accountSample 50000 0 true) turning
         t.eff = .reserve ∧ t.cac.credit ≤ 0 ∧ (turning.port 5).state = .fed ∧ (t.port 5).state ≠ .fed)
      ∧ turning.AccountSound ∧ turning.PortsSound := by
  refine ⟨⟨day_account, by decide⟩, day_sound, night_account, night_sound, by decide, by decide, by decide, ?_, ?_⟩
  · refine ⟨⟨?_, ?_, ?_, ?_⟩, ?_⟩ <;> decide
  · refine ⟨?_, ?_, ?_, ?_, ?_, ?_, ?_, ?_⟩ <;> decide

theorem witness_SampleGovernsStage_arbitrates :
    (easing.AccountSound ∧ easing.PortsSound
        ∧ (let t := run (.accountSample 50000 0 true) easing; effRank t.eff < effRank easing.eff))
      ∧ (broke.AccountSound ∧ broke.PortsSound
        ∧ (let t := run (.accountSample 50000 0 true) broke; broke.cac.credit ≤ 0 ∧ 0 < t.cac.credit))
      ∧ (thirsty.AccountSound ∧ thirsty.PortsSound
        ∧ (let t := run (.accountSample 50000 0 true) thirsty
           t.eff = thirsty.eff ∧ t.eff = .conserve ∧ 0 < thirsty.cac.credit ∧ t.cac.credit ≤ 0)) := by
  refine ⟨⟨⟨⟨?_, ?_, ?_, ?_⟩, ?_⟩, ⟨?_, ?_, ?_, ?_, ?_, ?_, ?_, ?_⟩, ?_⟩, ⟨⟨⟨?_, ?_, ?_, ?_⟩, ?_⟩, ⟨?_, ?_, ?_, ?_, ?_, ?_, ?_, ?_⟩, ?_⟩,
    ⟨⟨?_, ?_, ?_, ?_⟩, ?_⟩, ⟨?_, ?_, ?_, ?_, ?_, ?_, ?_, ?_⟩, ?_⟩ <;> decide

theorem witness_StageChangesReported :
    (let s := { night with sup := { night.sup with bankWatch := some 0 } }
     let t := run .bankLowWatchExpiry s
     exec .bankLowWatchExpiry s = .next t ∧ t.cond = .running ∧ t.sup.mode ≠ .start ∧ t.cac.stage ≠ s.cac.stage
       ∧ s.sup.mode ≠ .start ∧ s.PortsSound) :=
  ⟨rfl, by decide, by decide, by decide, by decide, by refine ⟨?_, ?_, ?_, ?_, ?_, ?_, ?_, ?_⟩ <;> decide⟩

theorem witness_StageTables :
    day.sup.mode ≠ .outage
      ∧ (let s := past .outage (.long 300) 300
         s.sup.mode = .outage ∧ s.cac.stage = .noStage)
      ∧ (night.sup.mode = .outage ∧ night.cac.stage = .openStage ∧ night.hlk.supervision = .supervised)
      ∧ (alone.sup.mode = .outage ∧ alone.cac.stage = .openStage ∧ alone.hlk.supervision = .autonomous)
      ∧ (lean.sup.mode = .outage ∧ lean.cac.stage = .reserve) ∧ (spent.sup.mode = .outage ∧ spent.cac.stage = .exhausted) := by
  decide

theorem witness_AccountRequests :
    night.PortsSound ∧ (takes night ∧ night.hlk.supervision = .supervised)
      ∧ ((paramsKept defaultParams).slotCeiling = night.cac.params.slotCeiling
        ∧ (paramsKept defaultParams).bankCeiling = night.cac.params.bankCeiling)
      ∧ (paramsKept { defaultParams with slotCeiling := 1 }).slotCeiling ≠ night.cac.params.slotCeiling
      ∧ (takes day ∧ day.sup.mode = .standby) ∧ takes night ∧ night.sup.mode = .outage :=
  ⟨night_sound, by decide⟩

/-- R117: with the slot ceiling lowered to 1 the grants of ports 5, 12 and 11 are taken, in that order. -/
theorem witness_AccountRequests_taken :
    (let t := run (.setAccountParams { defaultParams with slotCeiling := 1 }) night
     night.fga.counter < 4294967295 ∧ takenLast night t ⟨11, .p3, 600, 900, 3⟩ ∧ takenBefore ⟨12, .p3, 600, 900, 4⟩ ⟨11, .p3, 600, 900, 3⟩
       ∧ ∀ e ∈ night.fga.queue, e.level ≠ .p1) := by decide

theorem witness_FramesDiscarded :
    night.cond = .running ∧ night.hlk.restarting = false
      ∧ (RejectCause.badSum ≠ .badLength ∧ RejectCause.badSum ≠ .framingError)
      ∧ (let s := { night with hlk := { night.hlk with restarting := true } }; s.cond = .running ∧ s.hlk.restarting = true)
      ∧ (RejectCause.badSum = .queueFull → night.hlk.replies.length = 4)
      ∧ (let s := State.withReplies night [aReply, aReply, aReply, aReply]
         s.cond = .running ∧ s.hlk.restarting = false ∧ (RejectCause.queueFull = .queueFull → s.hlk.replies.length = 4)
           ∧ 4 ≤ s.hlk.replies.length)
      ∧ (∀ b ∈ (0x00#8 :: [0x00#8] : List Byte), b = 0x00#8) ∧ (∀ b ∈ (0xFF#8 :: [0xFF#8] : List Byte), b = 0xFF#8)
      ∧ ((∃ b ∈ (0x7F#8 :: [0x00#8] : List Byte), b ≠ 0x00#8) ∧ (∃ b ∈ (0x7F#8 :: [0x00#8] : List Byte), b ≠ 0xFF#8)
        ∧ night.hlk.replies.length < 4) := by decide

theorem witness_RequestsInTheirTurn :
    catalogue (.wake 7 1) = some (0x20, false)
      ∧ (held.cond ≠ .running ∨ held.hlk.restarting = true)
      ∧ (let s := State.withReplies night [aReply, aReply, aReply, aReply]
         s.cond = .running ∧ s.hlk.restarting = false ∧ 4 ≤ s.hlk.replies.length)
      ∧ (State.reset.cond = .running ∧ State.reset.hlk.restarting = false ∧ State.reset.hlk.replies.length < 4
        ∧ State.reset.sup.mode = .start)
      ∧ (let s := State.withReplies night [aReply]
         s.cond = .running ∧ s.hlk.replies = [aReply] ∧ (aReply.code ≠ 0xE1#8 ∨ aReply.result ≠ .ok))
      ∧ takes night := by decide

theorem witness_ReadRequestsOnlyReply :
    (State.reset.cond = .running ∧ State.reset.hlk.restarting = false ∧ State.reset.hlk.replies.length < 4) ∧ takes night ∧ 2 < 3 := by
  decide

theorem witness_EventRequests :
    takes night ∧ 131072 ≤ (131072#24).toNat ∧ (131071#24).toNat < 131072 := by decide

theorem witness_AttnAndFirstEvent :
    firstEvent State.reset.hlk = some (17, none) ∧ PlainEvent.restart.priority = 17
      ∧ firstEvent { State.reset.hlk with flags := 1#17, masks := { State.reset.hlk.masks with callStart := 0x8000#16 } }
        = some (1, some 15) ∧ PortEvent.callStart.priority = 1
      ∧ firstEvent { State.reset.hlk with flags := 1#17 } = some (1, none) := by decide

theorem witness_PresenceTable :
    (takes night ∧ 0 ≠ 1 ∧ 0 ≠ 2 ∧ 3 ≠ 1 ∧ 3 ≠ 2) ∧ (takes day ∧ day.sup.mode = .standby ∧ day.PresenceSound)
      ∧ (night.sup.mode = .outage ∧ night.hlk.supervision = .supervised ∧ 1 = night.hlk.token ∧ night.hlk.window = .long 300)
      ∧ (let s := presenceState .supervised 2 (.normal 55 0)
         takes s ∧ s.sup.mode = .outage ∧ s.hlk.supervision = .supervised ∧ 2 = s.hlk.token ∧ s.hlk.window = .normal 55 0)
      ∧ (night.PresenceSound ∧ 2 ≠ night.hlk.token)
      ∧ (let s := presenceState .supervised 1 (.normal 58 3)
         takes s ∧ s.sup.mode = .outage ∧ s.PresenceSound ∧ s.hlk.window = .normal 58 3)
      ∧ (takes alone ∧ alone.sup.mode = .outage ∧ alone.hlk.supervision = .autonomous) ∧ alone.cac.stage = .openStage
      ∧ alone.PortsSound
      ∧ (let s := { alone with cac := { alone.cac with stage := .conserve } }
         takes s ∧ s.sup.mode = .outage ∧ s.hlk.supervision = .autonomous ∧ s.cac.stage ≠ .openStage) := by
  refine ⟨?_, ?_, ?_, ?_, ?_, ?_, ?_, ?_, ⟨?_, ?_, ?_, ?_, ?_, ?_, ?_, ?_⟩, ?_⟩ <;> decide

/-- An outage in stage OPEN with no port enabled, where the move to AUTONOMOUS worsens the effective stage. -/
def empty : State :=
  let s := past .outage (.long 300) 300
  { s with cac := { s.cac with stage := .openStage } }

theorem witness_PresenceLost :
    (let s := presenceState .supervised 1 (.normal 56 1); s.cond = .running ∧ s.hlk.window = .normal 56 1 ∧ 1 ≤ 1)
      ∧ (let s := presenceState .supervised 1 (.normal 57 2); s.cond = .running ∧ s.hlk.window = .normal 57 2 ∧ 1 < 2)
      ∧ (night.cond = .running ∧ night.sup.mode = .outage ∧ night.hlk.supervision = .supervised ∧ night.hlk.window ≠ .noWindow)
      ∧ frugal.PortsSound ∧ frugal.hlk.supervision = .supervised
      ∧ ((run .presenceWindowExpiry frugal).hlk.supervision = .autonomous ∧ (frugal.port 11).hold = true
        ∧ (frugal.port 1).hold = false)
      ∧ ((frugal.port 13).state = .queued ∧ (frugal.port 14).state ≠ .queued ∧ (frugal.port 14).state ≠ .fed)
      ∧ (∃ t, exec .presenceWindowExpiry frugal = .next t) ∧ (run .presenceWindowExpiry frugal).eff = frugal.eff
      ∧ empty.PortsSound ∧ (empty.hlk.supervision = .supervised ∧ (run .presenceWindowExpiry empty).hlk.supervision = .autonomous
        ∧ (run .presenceWindowExpiry empty).eff ≠ empty.eff) :=
  ⟨by decide, by decide, by decide, by refine ⟨?_, ?_, ?_, ?_, ?_, ?_, ?_, ?_⟩ <;> decide, by decide, by decide, by decide, ⟨_, rfl⟩,
    by decide, by refine ⟨?_, ?_, ?_, ?_, ?_, ?_, ?_, ?_⟩ <;> decide, by decide⟩

/-- An outage in which the host feeds two LIFELINE ports, and in CONSERVE two STANDARD ports too, one of each class queued still, with
no credit. -/
def hosted (stage : Stage) : State :=
  let s := State.withPorts (past .outage (.long 300) 300) fun p =>
    match p.val with
    | 1 => { madeFed p .lifeline with hold := true, term := .awake }
    | 2 => { made p .lifeline with state := .queued, hold := true }
    | 3 => if stage = .conserve then { madeFed p .standard with hold := true } else resetPort p
    | 4 => if stage = .conserve then { made p .standard with state := .queued, hold := true, term := .call } else resetPort p
    | _ => resetPort p
  { s with
    cac := { s.cac with stage := stage }
    fga :=
      { queue := ⟨2, .p2, 3, 900⟩ :: (if stage = .conserve then [⟨4, .p3, 4, 900⟩] else [])
        grants := ⟨1, .p2, 600, 900, 1⟩ :: (if stage = .conserve then [⟨3, .p3, 600, 900, 2⟩] else []), counter := 4 } }

/-- R114, R121: the holds cleared, a grant and an entry of P2 end in RESERVE, and a grant that fell to P5 waits for credit in CONSERVE. -/
theorem witness_PresenceLost_ports :
    (hosted .reserve).PortsSound ∧ (hosted .conserve).PortsSound
      ∧ (let s := hosted .reserve
         s.hlk.supervision = .supervised ∧ (run .presenceWindowExpiry s).hlk.supervision = .autonomous ∧ s.eff = .reserve
           ∧ (s.port 1).state = .fed ∧ (s.port 2).state = .queued
           ∧ levelNow { s.port 1 with hold := false } = some .p2 ∧ levelNow { s.port 2 with hold := false } = some .p2)
      ∧ (let s := hosted .conserve
         s.hlk.supervision = .supervised ∧ (run .presenceWindowExpiry s).hlk.supervision = .autonomous
           ∧ (run .presenceWindowExpiry s).eff = .conserve ∧ s.cac.credit ≤ 0
           ∧ (s.port 3).state = .fed ∧ levelNow { s.port 3 with hold := false } = some .p5
           ∧ (s.port 4).state = .queued ∧ levelNow { s.port 4 with hold := false } = some .p4
           ∧ (s.port 4).profile.cls = .standard ∧ (s.port 4).hold = true)
      ∧ ((frugal.port 5).state = .fed ∧ levelNow { frugal.port 5 with hold := false } = some .p5 ∧ 0 < frugal.cac.credit
        ∧ (∀ e ∈ frugal.fga.queue, e.level ≠ .p1) ∧ (frugal.port 9).state = .fed
        ∧ levelNow { frugal.port 9 with hold := false } = some .p1) :=
  ⟨by refine ⟨?_, ?_, ?_, ?_, ?_, ?_, ?_, ?_⟩ <;> decide, by refine ⟨?_, ?_, ?_, ?_, ?_, ?_, ?_, ?_⟩ <;> decide, by decide, by decide,
    by decide⟩

theorem witness_RequestsRefused :
    (takes night ∧ 15 < 16 ∧ 15 < (asks 16 1 2 900).port) ∧ ((asks 15 1 4 900).port < 16 ∧ ¬ codesGood (asks 15 1 4 900))
      ∧ (takes alone ∧ alone.sup.mode = .outage ∧ alone.hlk.supervision = .autonomous)
      ∧ ((asks 15 1 3 900).port < 16 ∧ codesGood (asks 15 1 3 900)) := by decide

theorem witness_SaveRequests :
    (let s := { day with straps := ⟨true, false⟩ }; takes s ∧ s.straps.lockHigh = true)
      ∧ (let s := State.storing day (.saving anArea)
         takes s ∧ s.straps.lockHigh = false ∧ s.nvs.activity.isSaving = true)
      ∧ (takes day ∧ day.straps.lockHigh = false ∧ day.nvs.waitingSave = false ∧ day.nvs.activity = .idle)
      ∧ (let s := State.storing day (.writingCheckpoint aCheckpoint)
         takes s ∧ s.straps.lockHigh = false ∧ s.nvs.waitingSave = false ∧ s.nvs.activity.isWriting = true) := by decide

theorem witness_StoreWritesEnd :
    (let s := State.storing day (.saving anArea); s.StoreSound ∧ s.cond = .running ∧ s.nvs.activity = .saving anArea
      ∧ s.nvs.pendingCp = false)
      ∧ (let s := State.storing night (.writingCheckpoint aCheckpoint)
         s.StoreSound ∧ s.cond = .running ∧ s.nvs.activity = .writingCheckpoint aCheckpoint ∧ s.nvs.pendingCp = false
           ∧ s.nvs.waitingSave = false)
      ∧ (let s := State.storing night (.writingCheckpoint aCheckpoint)
         let u := { s with nvs := { s.nvs with waitingSave := true } }
         u.StoreSound ∧ u.nvs.pendingCp = false ∧ u.nvs.waitingSave = true)
      ∧ (let s := State.storing night (.writingCheckpoint aCheckpoint)
         let u := { s with nvs := { s.nvs with pendingCp := true, waitingSave := true } }
         u.StoreSound ∧ u.nvs.pendingCp = true ∧ u.nvs.waitingSave = true)
      ∧ (night.cond = .running ∧ night.nvs.cpTimer.isSome ∧ night.nvs.activity = .idle) := by
  refine ⟨?_, ?_, ?_, ?_, ?_⟩ <;> decide

theorem witness_CheckpointCarriesPresentValues :
    night.PortsSound ∧ night.StoreSound ∧ exec .checkpointTimerExpiry night = .next (run .checkpointTimerExpiry night)
      ∧ ((run .checkpointTimerExpiry night).nvs.activity = .writingCheckpoint ⟨1, 0, .outage, 500, 0x100#16⟩
        ∧ night.nvs.activity ≠ .writingCheckpoint ⟨1, 0, .outage, 500, 0x100#16⟩
        ∧ (run .checkpointTimerExpiry night).nvs.highSequence < 4294967295)
      ∧ (recoveryReads .checkpointTimerExpiry = none ∧ (1 : Fin 32).val ≠ (run .checkpointTimerExpiry night).nvs.lastSlot
        ∧ night.nvs.activity.isWriting = false)
      ∧ started.PortsSound
      ∧ (started.StoreSound ∧ recoveryReads .recoveryEnd = some (true, true)
        ∧ (run .recoveryEnd started).nvs.activity = .writingCheckpoint ⟨2, 0, .outage, 500, 0⟩
        ∧ (1 : Fin 32).val ≠ (run .recoveryEnd started).nvs.lastSlot) :=
  ⟨night_sound, night_store, rfl, by decide, by decide, started_sound, by decide⟩

theorem witness_PortEnabled :
    night.PortsSound ∧ takes night ∧ night.hlk.supervision = .supervised ∧ (asks 15 1 2 900).port = (15 : PortId).val
      ∧ codesGood (asks 15 1 2 900) ∧ codesGood (asks 15 0 1 0) ∧ (night.port 15).profile.enabled = false
      ∧ (let s := { day with sup := { day.sup with partTime := 86400 } }
         s.PortsSound ∧ (takes s ∧ s.hlk.supervision = .supervised ∧ s.sup.mode = .standby
           ∧ (s.port 15).profile.enabled = false ∧ (s.port 15).periodicDue ≤ s.sup.partTime)) :=
  ⟨night_sound, by decide, by decide, by decide, by decide, by decide, by decide,
    by refine ⟨?_, ?_, ?_, ?_, ?_, ?_, ?_, ?_⟩ <;> decide, by decide⟩

theorem witness_PortDisabled :
    night.PortsSound ∧ takes night ∧ night.hlk.supervision = .supervised ∧ (asks 5 0 2 900).port = (5 : PortId).val
      ∧ codesGood (asks 5 0 2 900) ∧ (night.port 5).profile.enabled = true ∧ (asks 5 0 2 900).enabled = 0
      ∧ ((night.port 5).state = .fed ∧ (night.port 6).state = .lineTest ∧ night.locked 8 = true ∧ night.locked 5 = false) :=
  ⟨night_sound, by decide⟩

theorem witness_LiveProfileChanged :
    night.PortsSound ∧ takes night ∧ night.hlk.supervision = .supervised ∧ (asks 5 1 3 900).port = (5 : PortId).val
      ∧ codesGood (asks 5 1 3 900) ∧ codesGood (asks 5 1 1 900) ∧ (night.port 5).profile.enabled = true
      ∧ (asks 5 1 3 900).enabled = 1
      ∧ ((night.port 5).profile.cls ≠ (profileKept (asks 5 1 3 900)).cls ∧ (profileKept (asks 5 1 3 900)).cls = .deferred
        ∧ (profileKept (asks 5 1 1 900)).cls ≠ .deferred ∧ (night.port 5).state = .fed ∧ (night.port 1).state ≠ .fed)
      ∧ ((run (.setProfile (asks 5 1 1 900)) night).port 5).state = .fed
      ∧ (let s := { night with cac := { night.cac with params := { night.cac.params with slotCeiling := 4 } } }
         (s.port 4).state = .queued ∧ ((run (.setProfile (asks 4 1 1 900)) s).port 4).state = .queued) :=
  ⟨night_sound, by decide⟩

/-- The lean outage in stage CONSERVE with no credit. -/
def pinched : State := { lean with cac := { lean.cac with stage := .conserve, credit := 0 } }

/-- R56, R114: a port made STANDARD is not admitted in RESERVE, and waits for credit in CONSERVE. -/
theorem witness_LiveProfileChanged_stages :
    lean.PortsSound ∧ pinched.PortsSound
      ∧ (takes lean ∧ lean.hlk.supervision = .supervised ∧ (asks 1 1 2 900).port = (1 : PortId).val
        ∧ (asks 2 1 2 900).port = (2 : PortId).val ∧ codesGood (asks 1 1 2 900) ∧ codesGood (asks 2 1 2 900)
        ∧ (lean.port 1).profile.enabled = true ∧ (lean.port 2).profile.enabled = true ∧ (asks 1 1 2 900).enabled = 1
        ∧ (lean.port 1).profile.cls ≠ (profileKept (asks 1 1 2 900)).cls ∧ (lean.port 1).state = .fed ∧ (lean.port 2).state = .queued
        ∧ lean.eff = .reserve)
      ∧ (let q := { lean.port 1 with profile := profileKept (asks 1 1 2 900) }
         levelNow q ≠ some .p1 ∧ levelNow q ≠ some .p2)
      ∧ (let q := { lean.port 2 with profile := profileKept (asks 2 1 2 900) }
         levelNow q ≠ some .p1 ∧ levelNow q ≠ some .p2)
      ∧ (takes pinched ∧ pinched.hlk.supervision = .supervised ∧ pinched.eff = .conserve ∧ pinched.cac.credit ≤ 0
        ∧ (pinched.port 1).state = .fed ∧ levelNow { pinched.port 1 with profile := profileKept (asks 1 1 2 900) } = some .p4) :=
  ⟨lean_sound, by refine ⟨?_, ?_, ?_, ?_, ?_, ?_, ?_, ?_⟩ <;> decide, by decide⟩

theorem witness_LockoutsAskCheckpoint :
    night.PortsSound ∧ exec (.clearLockout 8) night = .next (run (.clearLockout 8) night)
      ∧ (night.sup.mode ≠ .start ∧ (run (.clearLockout 8) night).sup.mode ≠ .start
        ∧ (run (.clearLockout 8) night).lockoutMask ≠ night.lockoutMask) :=
  ⟨night_sound, rfl, by decide⟩

theorem witness_LineMessagesCounted :
    (night.cond = .running ∧ (night.port 1).rx ≠ .gated) ∧ (night.port 6).rx = .gated := by decide

theorem witness_MessagesDecode :
    (3 : Fin 13) < 12 ∧ (0x22#8 : Byte).toNat % 16 = [0x01#8, 0x00#8].length
      ∧ (0x1C#8 : Byte).toNat % 16 = (List.replicate 12 0x00#8).length ∧ (0x00#8 : Byte) ≠ crcOf (0x22#8 :: [0x01#8, 0x00#8])
      ∧ 2 ≤ [0x01#8, 0x00#8].length ∧ (16 ≤ 52 ∧ 52 < (messageBits 0x22#8 [0x01#8, 0x00#8]).length)
      ∧ (night.cond = .running ∧ (night.port 1).rx ≠ .gated ∧ (night.port 6).rx = .gated)
      ∧ ((0 : Fin 13) < 12 ∧ 12 < (0x2D#8 : Byte).toNat % 16 ∧ 12 < (0x2F#8 : Byte).toNat % 16)
      ∧ (65535 < 65536 ∧ 3 < 4 ∧ 4 < 256) ∧ ((1 : Nat) = 1 → ([] : List Byte).length ≠ 9) := by decide

theorem witness_RequestFramesDecode :
    (catalogue (.wake 255 1) = some (0x20, false) ∧ (Instr.wake 255 1).wellFormed = true)
      ∧ catalogue (.setProfile (asks 15 1 2 4294967295)) = some (0x11, false)
      ∧ (Instr.setProfile (asks 15 1 2 4294967295)).wellFormed = true
      ∧ 0xA6#8 ∉ [0x00#8, 0xA7#8, 0xFF#8] ∧ checkByte ((requestFrame 0x20 (requestData (.wake 255 1))).drop 1).dropLast ≠ 0x00#8
      ∧ ((0#8 : Byte) = 0#8 ∧ 60 < (61#8 : Byte).toNat) ∧ FrameRx.check [0x02#8] ≠ .hunt ∧ night.cond = .running := by decide

theorem witness_NoticesAndMailbox :
    (night.cond = .running ∧ (night.port 1).rx ≠ .gated ∧ night.sup.mode ≠ .standby)
      ∧ (day.cond = .running ∧ (day.port 1).rx ≠ .gated ∧ day.sup.mode = .standby ∧ (3#8 : Byte) ≠ 1#8 ∧ (3#8 : Byte) ≠ 2#8)
      ∧ takes night := by decide

theorem witness_StandbyFeeds :
    day.PortsSound ∧ (day.cond = .running ∧ day.sup.mode = .standby)
      ∧ ((day.port 1).rx ≠ .gated ∧ (day.port 1).state = .idle ∧ (day.port 1).profile.cls ≠ .deferred
        ∧ (day.port 1).standbyFeed = false)
      ∧ ((day.port 10).rx ≠ .gated ∧ (day.port 10).profile.cls = .deferred)
      ∧ ((day.port 5).rx ≠ .gated ∧ (day.port 5).standbyFeed = true ∧ (day.port 5).hold = false ∧ (day.port 5).state = .fed)
      ∧ (day.port 9).hold = true :=
  ⟨day_sound, by decide⟩

theorem witness_TransmitterSends :
    (let s := day.setPort 1 { day.port 1 with tx := ⟨true, none, none, none⟩ }
     s.cond = .running ∧ (s.port 1).tx.sending = none ∧ (s.port 1).rx.taking = false ∧ (s.port 1).tx.wakeSlot = true)
      ∧ (let s := day.setPort 1 { day.port 1 with rx := .body (fieldBits (headerOf 0x22#8)) 0x22#8 false [true], tx := ⟨true, none, none, none⟩ }
         s.cond = .running ∧ (s.port 1).rx.taking = true)
      ∧ ∀ x ∈ [Sending.wakePattern, .feedState true, .cellOrder 30],
        (let s := day.setPort 1 { day.port 1 with rx := .gated, tx := ⟨false, none, none, some x⟩ }
         s.cond = .running ∧ (s.port 1).tx.sending = some x) := by decide

theorem witness_WakesAndMisses :
    night.PortsSound ∧ (night.cond = .running ∧ night.sup.mode = .outage)
      ∧ (night.wakeOf 1 = some 500 ∧ 500 ≤ night.sup.outageTime ∧ (night.port 1).state = .idle)
      ∧ (night.wakeOf 3 = some 600 ∧ night.sup.outageTime < 600 ∧ (night.port 3).state ≠ .idle)
      ∧ ((night.port 2).checkin.isSome ∧ (night.port 2).missed = 2 ∧ ¬ testWaits night 2) :=
  ⟨night_sound, by decide⟩

theorem witness_SilenceAndBurstEnd :
    night.PortsSound ∧ night.cond = .running ∧ (night.port 9).silence.isSome ∧ (night.port 5).burst.isSome
      ∧ ¬ ((night.port 5).term = .call ∨ (night.port 5).hold = true ∨ (night.port 5).standbyFeed = true)
      ∧ ((night.port 14).burst.isSome ∧ (night.port 14).hold = true) :=
  ⟨night_sound, by decide⟩

theorem witness_CheckinFirstPart : night.PortsSound ∧ night.cond = .running ∧ (night.port 2).rx ≠ .gated :=
  ⟨night_sound, by decide⟩

theorem witness_CheckinActsByState :
    night.PortsSound ∧ (night.cond = .running ∧ (night.port 1).rx ≠ .gated ∧ (night.port 1).state = .idle)
      ∧ ((night.port 10).rx ≠ .gated ∧ (night.port 10).state = .idle ∧ (night.port 10).profile.cls = .deferred)
      ∧ ((night.port 5).rx ≠ .gated ∧ (night.port 5).state = .fed ∧ (night.port 5).term ≠ .call ∧ night.eff ≠ .reserve)
      ∧ ((night.port 8).rx ≠ .gated ∧ (night.port 8).state = .locked) ∧ day.PortsSound
      ∧ (day.cond = .running ∧ (day.port 2).rx ≠ .gated ∧ (day.port 2).state = .cellTest) ∧ lean.PortsSound
      ∧ (lean.cond = .running ∧ (lean.port 1).rx ≠ .gated ∧ (lean.port 1).state = .fed ∧ (lean.port 1).term = .call
        ∧ (lean.port 1).hold = false ∧ lean.eff = .reserve)
      ∧ ((lean.port 2).rx ≠ .gated ∧ (lean.port 2).state = .queued ∧ (lean.port 2).term ≠ .call ∧ (lean.port 2).hold = true) :=
  ⟨night_sound, by decide, by decide, by decide, by decide, day_sound, by decide, lean_sound, by decide, by decide⟩

theorem witness_HostWakes :
    night.PortsSound ∧ takes night ∧ 1 < 2 ∧ day.PortsSound ∧ (takes day ∧ day.sup.mode = .standby)
      ∧ (night.sup.mode = .outage ∧ night.hlk.supervision = .supervised ∧ night.eff ≠ .exhausted)
      ∧ ((night.port 0).state = .off ∧ (night.port 1).state = .idle ∧ (night.port 2).state = .waking
        ∧ (night.port 7).state = .retry ∧ (night.port 6).state = .lineTest ∧ night.locked 6 = false)
      ∧ spent.PortsSound
      ∧ (takes spent ∧ spent.sup.mode = .outage ∧ spent.hlk.supervision = .supervised ∧ spent.eff = .exhausted
        ∧ (spent.port 1).state = .idle) :=
  ⟨night_sound, by decide, by decide, day_sound, by decide, by decide, by decide, spent_sound, by decide⟩

theorem witness_HostFeedsAndReleases :
    night.PortsSound ∧ (takes night ∧ night.hlk.supervision = .supervised ∧ night.eff = .openStage)
      ∧ ((night.port 0).state = .off ∧ (night.port 8).state = .locked ∧ (night.port 1).state = .idle ∧ (night.port 2).state = .waking
        ∧ (night.port 3).state = .awake ∧ (night.port 4).state = .queued ∧ (night.port 4).profile.cls = .standard
        ∧ (night.port 4).hold = false ∧ (night.port 5).state = .fed)
      ∧ lean.PortsSound
      ∧ (takes lean ∧ lean.hlk.supervision = .supervised ∧ lean.eff = .reserve ∧ (lean.port 4).profile.cls ≠ .lifeline
        ∧ (lean.port 4).state = .awake)
      ∧ ((night.port 9).profile.cls = .lifeline ∧ (night.port 9).term = .call) :=
  ⟨night_sound, by decide, by decide, lean_sound, by decide, by decide⟩

/-- The night with a call waiting at a LIFELINE port and as many ports fed as the slot ceiling admits. -/
def pressed : State :=
  let s := night.setPort 1 { made 1 .lifeline with state := .queued, term := .call }
  { s with
    cac := { s.cac with params := { s.cac.params with slotCeiling := 4 } }
    fga := { s.fga with queue := ⟨1, .p1, 5, 900⟩ :: s.fga.queue } }

/-- R112: the youngest grant at P5 is taken for the call. -/
theorem witness_ArbitrationGrantsInOrder_taken :
    (pressed.PortsShaped ∧ pressed.QueueSound ∧ pressed.GrantsSound)
      ∧ (pressed.fga.counter < 4294967295 ∧ takenLast pressed pressed.arbitrate ⟨5, .p5, 600, 900, 1⟩
        ∧ (1 : PortId) ∈ pressed.arbitrate.fga.grants.map (·.port)) := by
  refine ⟨⟨?_, ?_, ?_⟩, ?_⟩ <;> decide

theorem witness_ArbitrationGrantsInOrder :
    (night.PortsShaped ∧ night.QueueSound ∧ night.GrantsSound) ∧ night.PortsSound
      ∧ exec (.shortDetected 5) night = .next (run (.shortDetected 5) night)
      ∧ ((night.port 5).state = .fed ∧ ((run (.shortDetected 5) night).port 5).state ≠ .fed)
      ∧ exec (.checkin 1 false 7 .call 12000) night = .next (run (.checkin 1 false 7 .call 12000) night)
      ∧ ((night.port 1).state ≠ .queued ∧ (night.port 1).state ≠ .fed
        ∧ ((run (.checkin 1 false 7 .call 12000) night).port 1).state = .fed)
      ∧ (QueueEntry.before ⟨13, .p3, 7, 900⟩ ⟨4, .p5, 6, 900⟩ = true ∧ eligibleNow night ⟨13, .p3, 7, 900⟩
        ∧ (4 : PortId) ∈ night.arbitrate.fga.grants.map (·.port)) :=
  ⟨⟨night_sound.1, night_sound.2.1, night_sound.2.2.1⟩, night_sound, rfl, by decide, rfl, by decide, by decide⟩

theorem witness_SwitchTrips :
    night.PortsSound
      ∧ (night.cond = .running ∧ (night.port 5).state = .fed ∧ (night.port 5).switch.overload.isSome
        ∧ ¬ 3 ≤ (night.port 5).switch.trips)
      ∧ ((night.port 12).state = .fed ∧ 3 ≤ (night.port 12).switch.trips ∧ ¬ testWaits night 12)
      ∧ (let s := { night with pdi := { night.pdi with queue := [⟨12, .host, 10⟩] } }
         s.PortsSound ∧ (s.cond = .running ∧ (s.port 12).state = .fed ∧ 3 ≤ (s.port 12).switch.trips ∧ testWaits s 12)) :=
  ⟨night_sound, by decide, by decide, by refine ⟨?_, ?_, ?_, ?_, ?_, ?_, ?_, ?_⟩ <;> decide, by decide⟩

theorem witness_SwitchesWatched :
    (night.cond = .running ∧ night.sup.mode ≠ .start)
      ∧ ((night.port 5).switch.closed = true ∧ (night.port 5).switch.blanking = none)
      ∧ ((night.port 11).switch.closed = true ∧ (night.port 11).switch.blanking = some 100)
      ∧ (night.port 12).switch.clean = some 20 ∧ (night.port 1).switch.closed = false := by decide

theorem witness_RetryJudged :
    night.PortsSound ∧ (night.cond = .running ∧ (night.port 7).state = .retry ∧ (night.port 7).term = .call ∧ night.eff = .openStage)
      ∧ spent.PortsSound ∧ (spent.cond = .running ∧ (spent.port 3).state = .retry ∧ spent.eff = .exhausted) :=
  ⟨night_sound, by decide, spent_sound, by decide⟩

theorem witness_CellTests :
    day.PortsSound ∧ night.PortsSound
      ∧ (day.cond = .running ∧ day.sup.mode = .standby ∧ (day.port 1).cell.due ≤ day.sup.partTime ∧ (day.port 1).state = .idle)
      ∧ ((day.port 2).cell.due ≤ day.sup.partTime ∧ (day.port 2).state ≠ .idle)
      ∧ night.sup.mode = .outage ∧ (takes day ∧ takes night ∧ (day.port 0).state = .off ∧ (day.port 2).state ≠ .off)
      ∧ ((day.port 2).rx ≠ .gated ∧ (day.port 2).state = .cellTest) ∧ ((day.port 1).rx ≠ .gated ∧ (day.port 1).state ≠ .cellTest)
      ∧ (day.port 3).cell.report.isSome :=
  ⟨day_sound, night_sound, by decide⟩

theorem witness_LineTestsAsked :
    day.PortsSound ∧ night.PortsSound
      ∧ (takes day ∧ (day.port 0).state = .off ∧ (day.port 9).state = .fed ∧ (day.port 4).state = .queued
        ∧ (day.port 7).state = .retry)
      ∧ ((day.port 10).state = .idle ∧ testWaits day 10 ∧ (day.port 1).state = .idle ∧ ¬ testWaits day 1)
      ∧ (day.cond = .running ∧ day.sup.mode = .standby ∧ (day.port 1).profile.enabled = true
        ∧ (day.port 1).periodicDue ≤ day.sup.partTime)
      ∧ night.sup.mode = .outage ∧ (day.port 0).profile.enabled = false :=
  ⟨day_sound, night_sound, by decide⟩

theorem witness_LineTestTaken :
    quietDay.PortsSound
      ∧ (quietDay.cond = .running ∧ quietDay.pdi.instrument = none ∧ quietDay.eff ≠ .exhausted
        ∧ quietDay.pdi.queue = [⟨7, .host, 11⟩] ++ ⟨8, .repeatedTrip, 12⟩ :: [⟨11, .host, 13⟩]
        ∧ (∀ x ∈ [(⟨7, .host, 11⟩ : TestEntry)],
            (quietDay.port x.port).state ≠ .idle ∧ (quietDay.port x.port).state ≠ .locked)
        ∧ (quietDay.port 8).state = .locked)
      ∧ (day.pdi.instrument.isSome ∧ spent.eff = .exhausted)
      ∧ (lean.cond = .running ∧ lean.pdi.instrument = some ⟨5, .fromIdle, .t1, none, none, none⟩ ∧ TestPhase.t1 ≠ .t3) :=
  ⟨quietDay_sound, by decide, by decide, by decide⟩

theorem witness_LineTestCompletes :
    night.PortsSound
      ∧ (night.cond = .running
        ∧ night.pdi.instrument = some ⟨6, .fromIdle, .t3, some ⟨false, false⟩, some ⟨true, true⟩, none⟩)
      ∧ day.PortsSound
      ∧ (day.cond = .running
        ∧ day.pdi.instrument = some ⟨6, .fromLocked, .t3, some ⟨false, false⟩, some ⟨true, true⟩, none⟩) :=
  ⟨night_sound, by decide, day_sound, by decide⟩

theorem witness_LockoutCleared :
    takes night ∧ (night.port 0).state = .off ∧ (night.port 1).state ≠ .off ∧ (night.port 1).state ≠ .locked
      ∧ (night.port 8).state = .locked := by decide

end Sys2Proof.Tests
end

/-! PROOF. The end of an outage (R9, R37): what the hand-over leaves at each block and each port. -/

namespace Sys2Proof.Machine

open Sys2Proof.Claims

variable (s : State) (p r : PortId)

/-! ### Checkpoints asked for (R174, R175) -/

/-- After a checkpoint has been asked for, the store is busy. -/
theorem State.requestCheckpoint_busy : s.requestCheckpoint.nvs.activity ≠ .idle := by
  rcases s.requestCheckpoint_cases with ⟨-, h⟩ | ⟨busy, h⟩ <;> rw [h]
  · exact nofun
  · exact busy

/-- A busy store keeps a checkpoint asked for pending. -/
theorem State.requestCheckpoint_nvs_of_busy (busy : s.nvs.activity ≠ .idle) :
    s.requestCheckpoint.nvs = { s.nvs with pendingCp := true } := by
  rcases s.requestCheckpoint_cases with ⟨idle, -⟩ | ⟨-, h⟩
  · exact absurd idle busy
  · rw [h]

/-- A port is locked in LOCKED, and in a line test that borrowed it from there (R47). -/
theorem State.locked_iff :
    s.locked p = true ↔ (s.port p).state = .locked
      ∨ ((s.port p).state = .lineTest ∧ ∃ x, s.pdi.instrument = some x ∧ x.port = p ∧ x.borrowed = .fromLocked) := by
  unfold State.locked
  cases hs : (s.port p).state
  case lineTest => cases hi : s.pdi.instrument <;> simp
  all_goals simp

theorem State.locked_congr {s t : State} (locked : (t.port p).state = .locked ↔ (s.port p).state = .locked)
    (lineTest : (t.port p).state = .lineTest ↔ (s.port p).state = .lineTest)
    (instrument : t.pdi.instrument = s.pdi.instrument) : t.locked p = s.locked p := by
  rw [Bool.eq_iff_iff, State.locked_iff, State.locked_iff, locked, lineTest, instrument]

/-- What the lockout mask rests on is each port's lock (R47). -/
theorem State.lockoutMask_congr {s t : State} (h : ∀ p, t.locked p = s.locked p) : t.lockoutMask = s.lockoutMask := by
  simp only [State.lockoutMask, h]

/-- A checkpoint formed now carries what stands in a state that agrees on what it records (R174). -/
theorem State.carriesPresent_checkpointNow {s t : State} (used : t.cac.qUsed = s.cac.qUsed) (mode : t.sup.mode = s.sup.mode)
    (time : t.sup.outageTime = s.sup.outageTime) (locks : ∀ p, t.locked p = s.locked p)
    (high : t.nvs.highSequence = s.nvs.highSequence) : carriesPresent t s.checkpointNow := by
  refine ⟨used.symm, ?_, time.symm, (State.lockoutMask_congr locks).symm, fun below => ?_⟩
  · rw [mode]
    cases hm : s.sup.mode <;> simp [State.checkpointNow, recordedMode, hm]
  · rw [high] at below ⊢
    simp [State.checkpointNow, nextSequence, maxU32, below]

/-- A checkpoint asked for, the timer set since, and once more asked for or not: what the statements call `checkpointAsked` (R173,
R175). -/
theorem State.checkpointAsked_of_requested {s t : State} {again : Bool} {timer : Option Nat}
    (nvs : t.nvs = { s.requestCheckpoint.nvs with
      pendingCp := s.requestCheckpoint.nvs.pendingCp || again, cpTimer := timer })
    (carries : carriesPresent t s.checkpointNow) : checkpointAsked { s.nvs with cpTimer := timer } t again := by
  unfold checkpointAsked
  rcases s.requestCheckpoint_cases with ⟨idle, h⟩ | ⟨busy, h⟩ <;> rw [h] at nvs
  · rw [if_pos idle]
    exact ⟨_, carries, by simpa [Nvs.ringForWrite] using nvs⟩
  · rw [if_neg busy]
    simpa using nvs

/-! ### Feeds ended without an arbitration (R113, R118) -/

/-- The feed of a port ended quietly: everything that can come of it. -/
theorem State.endFeedQuietly_cases :
    ((s.port p).state = .fed ∧ s.endFeedQuietly p = s.releaseTo p (s.port p).awakeOrIdle)
      ∨ ((s.port p).state = .queued ∧ s.endFeedQuietly p = s.withdrawTo p (s.port p).awakeOrIdle)
      ∨ ((s.port p).state ≠ .fed ∧ (s.port p).state ≠ .queued ∧ s.endFeedQuietly p = s) := by
  unfold State.endFeedQuietly
  split
  · next h => exact .inl ⟨h, rfl⟩
  · next h => exact .inr (.inl ⟨h, rfl⟩)
  · next h g => exact .inr (.inr ⟨h, g, rfl⟩)

theorem Port.awakeOrIdle_silent (q : Port) : q.awakeOrIdle.silent = false := by
  unfold Port.awakeOrIdle
  split <;> rfl

/-- The record of a port whose feed has ended: released, withdrawn, or as it was (R113). -/
def Port.feedEnded (q : Port) : Port :=
  match q.state with
  | .fed => ungranted (restState q) q
  | .queued => { q with state := restState q }
  | _ => q

theorem State.port_releaseTo_self (fed : (s.port p).state = .fed) (st : PortState) (heard : st.silent = false) :
    (s.releaseTo p st).port p = ungranted st (s.port p) := by
  have talks : (s.port p).state.silent = false := by rw [fed]; rfl
  have ended : (s.endGrant p).port p = ungranted (s.port p).state (s.port p) :=
    (s.port_endGrant_self p).trans (Port.ask_heard talks)
  rw [State.releaseTo, State.port_enter_self, ended]
  exact Port.enter_heard heard talks

theorem State.port_releaseTo_ne (st : PortState) (h : r ≠ p) : (s.releaseTo p st).port r = s.port r := by
  rw [State.releaseTo, State.port_enter, if_neg h, s.port_endGrant_ne p r h]

theorem State.port_withdrawTo_self (queued : (s.port p).state = .queued) (st : PortState) (heard : st.silent = false) :
    (s.withdrawTo p st).port p = { s.port p with state := st } := by
  have talks : (s.port p).state.silent = false := by rw [queued]; rfl
  rw [State.withdrawTo, State.port_enter_self]
  exact Port.enter_heard heard talks

theorem State.port_withdrawTo_ne (st : PortState) (h : r ≠ p) : (s.withdrawTo p st).port r = s.port r := by
  rw [State.withdrawTo, State.port_enter, if_neg h]
  rfl

theorem State.port_endFeedQuietly_self : (s.endFeedQuietly p).port p = (s.port p).feedEnded := by
  have heard := (s.port p).awakeOrIdle_silent
  rcases s.endFeedQuietly_cases p with ⟨fed, h⟩ | ⟨queued, h⟩ | ⟨notFed, notQueued, h⟩ <;> rw [h]
  · rw [s.port_releaseTo_self p fed _ heard]
    simp only [Port.feedEnded, fed]
    rfl
  · rw [s.port_withdrawTo_self p queued _ heard]
    simp only [Port.feedEnded, queued]
    rfl
  · unfold Port.feedEnded
    split <;> trivial

theorem State.port_endFeedQuietly_ne (h : r ≠ p) : (s.endFeedQuietly p).port r = s.port r := by
  rcases s.endFeedQuietly_cases p with ⟨-, g⟩ | ⟨-, g⟩ | ⟨-, -, g⟩ <;> rw [g]
  · exact s.port_releaseTo_ne p r _ h
  · exact s.port_withdrawTo_ne p r _ h

/-- The feeds of a list of ports ended, each once: what becomes of a port. -/
theorem State.port_forPorts_endFeedQuietly (ps : List PortId) (hp : ps.Nodup) :
    (s.forPorts ps State.endFeedQuietly).port r = if r ∈ ps then (s.port r).feedEnded else s.port r := by
  induction ps generalizing s with
  | nil => simp [State.forPorts]
  | cons q qs ih =>
    obtain ⟨hq, hqs⟩ := List.nodup_cons.mp hp
    change ((s.endFeedQuietly q).forPorts qs State.endFeedQuietly).port r = _
    rw [ih (s.endFeedQuietly q) hqs]
    by_cases h : r = q
    · subst h
      simp [hq, s.port_endFeedQuietly_self r]
    · simp [h, s.port_endFeedQuietly_ne q r h]

/-- An entry outlives a feed's end only if its port was not QUEUED or is another. -/
theorem State.mem_endFeedQuietly_queue {e : QueueEntry} (h : e ∈ (s.endFeedQuietly p).fga.queue) :
    e ∈ s.fga.queue ∧ (e.port = p → (s.port p).state ≠ .queued) := by
  rcases s.endFeedQuietly_cases p with ⟨fed, g⟩ | ⟨-, g⟩ | ⟨-, notQueued, g⟩ <;> rw [g] at h
  · exact ⟨h, fun _ => by rw [fed]; exact nofun⟩
  · obtain ⟨mem, other⟩ := (mem_dropEntry p).mp h
    exact ⟨mem, fun same => absurd same other⟩
  · exact ⟨h, fun _ => notQueued⟩

/-- A grant outlives a feed's end only if its port was not FED or is another. -/
theorem State.mem_endFeedQuietly_grants {g : Grant} (h : g ∈ (s.endFeedQuietly p).fga.grants) :
    g ∈ s.fga.grants ∧ (g.port = p → (s.port p).state ≠ .fed) := by
  rcases s.endFeedQuietly_cases p with ⟨-, e⟩ | ⟨queued, e⟩ | ⟨notFed, -, e⟩ <;> rw [e] at h
  · obtain ⟨mem, other⟩ := (mem_dropGrant p).mp h
    exact ⟨mem, fun same => absurd same other⟩
  · exact ⟨h, fun _ => by rw [queued]; exact nofun⟩
  · exact ⟨h, fun _ => notFed⟩

theorem State.mem_forPorts_endFeedQuietly_queue {e : QueueEntry} (ps : List PortId)
    (h : e ∈ (s.forPorts ps State.endFeedQuietly).fga.queue) :
    e ∈ s.fga.queue ∧ (e.port ∈ ps → (s.port e.port).state ≠ .queued) := by
  induction ps generalizing s with
  | nil => exact ⟨h, nofun⟩
  | cons q qs ih =>
    obtain ⟨mem, rest⟩ := ih (s.endFeedQuietly q) h
    obtain ⟨mem, first⟩ := s.mem_endFeedQuietly_queue q mem
    refine ⟨mem, fun listed => ?_⟩
    by_cases same : e.port = q
    · exact same ▸ first same
    · rw [← s.port_endFeedQuietly_ne q e.port same]
      exact rest ((List.mem_cons.mp listed).resolve_left same)

theorem State.mem_forPorts_endFeedQuietly_grants {g : Grant} (ps : List PortId)
    (h : g ∈ (s.forPorts ps State.endFeedQuietly).fga.grants) :
    g ∈ s.fga.grants ∧ (g.port ∈ ps → (s.port g.port).state ≠ .fed) := by
  induction ps generalizing s with
  | nil => exact ⟨h, nofun⟩
  | cons q qs ih =>
    obtain ⟨mem, rest⟩ := ih (s.endFeedQuietly q) h
    obtain ⟨mem, first⟩ := s.mem_endFeedQuietly_grants q mem
    refine ⟨mem, fun listed => ?_⟩
    by_cases same : g.port = q
    · exact same ▸ first same
    · rw [← s.port_endFeedQuietly_ne q g.port same]
      exact rest ((List.mem_cons.mp listed).resolve_left same)

theorem State.endFeedQuietly_counter : (s.endFeedQuietly p).fga.counter = s.fga.counter := by
  rcases s.endFeedQuietly_cases p with ⟨-, h⟩ | ⟨-, h⟩ | ⟨-, -, h⟩ <;> rw [h] <;> rfl

/-- With every entry's port QUEUED and every grant's port FED, the end of every feed empties the queue and the grant set (R118). -/
theorem State.forPorts_allPorts_endFeedQuietly_fga (entries : ∀ e ∈ s.fga.queue, (s.port e.port).state = .queued)
    (grants : ∀ g ∈ s.fga.grants, (s.port g.port).state = .fed) :
    (s.forPorts allPorts State.endFeedQuietly).fga = { queue := [], grants := [], counter := s.fga.counter } := by
  have noEntries : (s.forPorts allPorts State.endFeedQuietly).fga.queue = [] :=
    List.eq_nil_iff_forall_not_mem.mpr fun e h => by
      obtain ⟨mem, notQueued⟩ := s.mem_forPorts_endFeedQuietly_queue allPorts h
      exact notQueued (mem_allPorts _) (entries e mem)
  have noGrants : (s.forPorts allPorts State.endFeedQuietly).fga.grants = [] :=
    List.eq_nil_iff_forall_not_mem.mpr fun g h => by
      obtain ⟨mem, notFed⟩ := s.mem_forPorts_endFeedQuietly_grants allPorts h
      exact notFed (mem_allPorts _) (grants g mem)
  have counter : (s.forPorts allPorts State.endFeedQuietly).fga.counter = s.fga.counter :=
    State.forPorts_induct (P := fun t => t.fga.counter = s.fga.counter) s allPorts
      (fun p _ t h => (t.endFeedQuietly_counter p).trans h) rfl
  rw [← noEntries, ← noGrants, ← counter]

/-! ### The blocks one by one -/

/-- A stage set: what becomes of the account, the host link and a busy store (R34). -/
theorem State.setStage_cac (st : Stage) : (s.setStage st).cac = { s.cac with stage := st } := by
  unfold State.setStage
  split
  · next h => rw [← h]
  · simp

theorem State.setStage_hlk (st : Stage) :
    (s.setStage st).hlk = if s.cac.stage = st then s.hlk else raised s.hlk 4 := by
  unfold State.setStage
  split
  · rfl
  · rw [State.requestCheckpoint_hlk]
    rfl

theorem State.setStage_nvs_of_busy (st : Stage) (busy : s.nvs.activity ≠ .idle) :
    (s.setStage st).nvs = { s.nvs with pendingCp := s.nvs.pendingCp || s.cac.stage != st } := by
  unfold State.setStage
  split
  · next h => simp [h]
  · next h =>
    rw [State.requestCheckpoint_nvs_of_busy _ (by exact busy)]
    simp [h]

theorem State.startFloat_cac :
    s.startFloat.cac = { s.cac with float := if s.pins.float then .running 60 else s.cac.float } := by
  unfold State.startFloat
  split <;> rfl

theorem State.cacEnd_cac :
    s.cacEnd.cac = { s.cac with
      stage := .noStage, credit := 0, promotion := 0, candidate := none, lowBankRun := 0
      float := if s.pins.float then .running 60 else s.cac.float } := by
  simp [State.cacEnd, State.startFloat_cac, State.setStage_cac]

theorem State.cacEnd_hlk : s.cacEnd.hlk = if s.cac.stage = .noStage then s.hlk else raised s.hlk 4 := by
  simp [State.cacEnd, State.setStage_hlk]

theorem State.cacEnd_nvs_of_busy (busy : s.nvs.activity ≠ .idle) :
    s.cacEnd.nvs = { s.nvs with pendingCp := s.nvs.pendingCp || s.cac.stage != .noStage } := by
  simp [State.cacEnd, s.setStage_nvs_of_busy .noStage busy]

theorem State.port_cacEnd : s.cacEnd.port p = s.port p := State.port_congr s.cacEnd_ports p

/-- A port that no longer waits for a check-in (R89). -/
def Port.wakingEnded (q : Port) : Port := if q.state = .waking then { q with state := .idle, checkin := none } else q

/-- A port that no longer waits for its backoff (R137). -/
def Port.retryEnded (q : Port) : Port :=
  if q.state = .retry then { q with state := .idle, switch := { q.switch with backoff := none } } else q

theorem State.port_wksEnd : s.wksEnd.port p = (s.port p).wakingEnded := by
  rw [State.wksEnd, State.port_mapPorts]
  rfl

theorem State.port_fgaEnd : s.fgaEnd.port p = { (s.port p).feedEnded with hold := false, burst := none } := by
  rw [State.fgaEnd, State.port_mapPorts, State.port_forPorts_endFeedQuietly s p allPorts (by decide), if_pos (mem_allPorts p)]

theorem State.port_fswEnd : s.fswEnd.port p = (s.port p).retryEnded := by
  rw [State.fswEnd, State.port_mapPorts]
  rfl

theorem State.port_ptbEnd : s.ptbEnd.port p = { s.port p with cellLow := false } := by
  rw [State.ptbEnd, State.port_mapPorts]

theorem State.port_ctuEnd :
    s.ctuEnd.port p =
      { s.port p with cell := { (s.port p).cell with due := max (s.port p).cell.due (later s.sup.partTime 21600) } } := by
  rw [State.ctuEnd, State.port_mapPorts]
  rfl

/-- The FGA end leaves the queue and the grant set empty where their ports are QUEUED and FED (R118). -/
theorem State.fgaEnd_fga (entries : ∀ e ∈ s.fga.queue, (s.port e.port).state = .queued)
    (grants : ∀ g ∈ s.fga.grants, (s.port g.port).state = .fed) :
    s.fgaEnd.fga = { queue := [], grants := [], counter := s.fga.counter } := by
  rw [State.fgaEnd, State.mapPorts_fga, s.forPorts_allPorts_endFeedQuietly_fga entries grants]

/-! ### The periodic line tests as STANDBY begins (R156, R158) -/

/-- One port's periodic request: its entry at the end of the test queue, unless it has one or is not due. -/
theorem State.periodicDue_pdi :
    (s.periodicDue p).pdi = { s.pdi with
      queue := s.pdi.queue ++
        (if s.periodicWanted p ∧ s.testQueued p = false then [⟨p, .periodic, s.sup.partTime⟩] else []) } := by
  rcases s.periodicDue_cases p with ⟨wanted, h⟩ | ⟨unwanted, h⟩ <;> rw [h]
  · rcases s.askTest_cases p .periodic with ⟨has, g⟩ | ⟨hasNot, g⟩ <;> rw [g]
    · simp [has]
    · simp [wanted, hasNot]
  · simp [unwanted]

theorem State.testQueued_periodicDue_ne (h : r ≠ p) : (s.periodicDue p).testQueued r = s.testQueued r := by
  rcases s.periodicDue_cases p with ⟨-, g⟩ | ⟨-, g⟩ <;> rw [g]
  rcases s.askTest_cases p .periodic with ⟨-, k⟩ | ⟨-, k⟩ <;> rw [k]
  · rfl
  · simp [State.testQueued, Ne.symm h]

/-- A port's request leaves the others' as they are. -/
theorem State.periodicWanted_periodicDue_ne (h : r ≠ p) : (s.periodicDue p).periodicWanted r ↔ s.periodicWanted r := by
  simp [State.periodicWanted, s.periodicDue_port_ne p r h]

/-- The requests for a list of ports, each once: one new entry for every port that is due and has none, in the list's order. -/
theorem State.forPorts_periodicDue_pdi (ps : List PortId) (hp : ps.Nodup) :
    (s.forPorts ps State.periodicDue).pdi = { s.pdi with
      queue := s.pdi.queue ++
        (ps.filter fun p => decide (s.periodicWanted p ∧ s.testQueued p = false)).map fun p => ⟨p, .periodic, s.sup.partTime⟩ } := by
  induction ps generalizing s with
  | nil => simp [State.forPorts]
  | cons q qs ih =>
    obtain ⟨hq, hqs⟩ := List.nodup_cons.mp hp
    have others : qs.filter (fun p => decide ((s.periodicDue q).periodicWanted p ∧ (s.periodicDue q).testQueued p = false))
        = qs.filter fun p => decide (s.periodicWanted p ∧ s.testQueued p = false) := by
      refine List.filter_congr fun r hr => ?_
      have ne : r ≠ q := fun e => hq (e ▸ hr)
      rw [s.testQueued_periodicDue_ne q r ne]
      simp only [s.periodicWanted_periodicDue_ne q r ne]
    change ((s.periodicDue q).forPorts qs State.periodicDue).pdi = _
    rw [ih (s.periodicDue q) hqs, others, State.periodicDue_pdi, State.periodicDue_sup, List.filter_cons]
    by_cases due : s.periodicWanted q ∧ s.testQueued q = false
    · rw [if_pos due, if_pos (decide_eq_true due)]
      simp
    · rw [if_neg due, if_neg (by simpa only [decide_eq_true_eq] using due)]
      simp

theorem State.periodicsDue_pdi :
    s.periodicsDue.pdi = { s.pdi with
      queue := s.pdi.queue ++ periodicEntries s fun p => decide (s.periodicWanted p) } := by
  have same : (allPorts.filter fun p => decide (s.periodicWanted p ∧ s.testQueued p = false))
      = allPorts.filter fun p => decide (s.periodicWanted p) && !decide (testWaits s p) := by
    refine List.filter_congr fun p _ => ?_
    simp only [testWaits, ← State.testQueued_iff]
    cases s.testQueued p <;> simp
  rw [State.periodicsDue, s.forPorts_periodicDue_pdi allPorts (by decide), periodicEntries, same]

theorem State.periodicsDue_port :
    s.periodicsDue.port p = if s.periodicWanted p then { s.port p with periodicDue := s.nextPeriodic } else s.port p := by
  rw [State.periodicsDue, s.forPorts_periodicDue_port allPorts (by decide) p]
  simp [mem_allPorts]

/-! ### The hand-over as a whole -/

/-- The blocks after the hand-over of an outage end, before the periodic line tests (R9). -/
def State.blocksEnd (s : State) : State := s.cacEnd.hlkEnd.wksEnd.fgaEnd.fswEnd.ptbEnd.ctuEnd.startCheckpointTimer

theorem State.handEnd_eq : s.handEnd = s.blocksEnd.periodicsDue := rfl

theorem restState_ne_retry (q : Port) : restState q ≠ .retry := by
  unfold restState
  split <;> exact nofun

/-- A port's record after an outage, with the due time of its next cell test no sooner than a given one (R37). -/
def Port.afterOutage (hold : Nat) (q : Port) : Port :=
  { q with
    state :=
      match q.state with
      | .waking => .idle
      | .retry => .idle
      | .queued => restState q
      | .fed => restState q
      | other => other
    hold := false, burst := none, cellLow := false, checkin := none
    tx := { q.tx with feedSlot := if q.state = .fed then some false else q.tx.feedSlot }
    switch := { opened q.switch with backoff := none }
    cell := { q.cell with due := max q.cell.due hold } }

/-- What the shape of a port's record says of the fields that an outage end touches. -/
theorem Port.Sound.timers {m : Mode} {q : Port} (h : q.Sound m) :
    (q.state ≠ .fed → opened q.switch = q.switch) ∧ (q.state ≠ .retry → q.switch.backoff = none)
      ∧ (q.state ≠ .waking → q.checkin = none) := by
  obtain ⟨-, -, -, -, closed, idle, backoff, -, -, -, -, -, -, -, -, checkin, -, -, -⟩ := h
  refine ⟨fun notFed => ?_, fun notRetry => ?_, fun notWaking => ?_⟩
  · have isOpen : q.switch.closed = false := by simpa using mt closed.mp notFed
    obtain ⟨blanking, overload, clean⟩ := idle isOpen
    calc opened q.switch
        = { q.switch with
            closed := q.switch.closed, blanking := q.switch.blanking, overload := q.switch.overload
            clean := q.switch.clean } := by rw [isOpen, blanking, overload, clean]; rfl
      _ = q.switch := rfl
  · simpa using mt backoff.mp notRetry
  · simpa using mt checkin notWaking

theorem Switch.eq_of_noBackoff {w : Switch} (h : w.backoff = none) : w = { w with backoff := none } := by
  rw [← h]

/-- The ends of the blocks, one after the other, are the record after an outage. -/
theorem Port.afterOutage_eq {m : Mode} {q : Port} (h : q.Sound m) (hold : Nat) :
    ({ Port.retryEnded { q.wakingEnded.feedEnded with hold := false, burst := none } with
      cellLow := false
      cell := { (Port.retryEnded { q.wakingEnded.feedEnded with hold := false, burst := none }).cell with
        due := max (Port.retryEnded { q.wakingEnded.feedEnded with hold := false, burst := none }).cell.due hold } } : Port)
      = q.afterOutage hold := by
  obtain ⟨opens, backoff, checkin⟩ := h.timers
  have rest := restState_ne_retry q
  cases hst : q.state
  case fed =>
    simp [Port.retryEnded, Port.wakingEnded, Port.feedEnded, Port.afterOutage, hst, rest, ungranted, opened, checkin, backoff]
  case retry =>
    simp [Port.retryEnded, Port.wakingEnded, Port.feedEnded, Port.afterOutage, hst, opens, checkin]
  case waking =>
    simp [Port.retryEnded, Port.wakingEnded, Port.feedEnded, Port.afterOutage, hst, opens]
    exact Switch.eq_of_noBackoff (backoff (by simp [hst]))
  all_goals
    simp [Port.retryEnded, Port.wakingEnded, Port.feedEnded, Port.afterOutage, hst, rest, opens, checkin]
    exact Switch.eq_of_noBackoff (backoff (by simp [hst]))

/-- The blocks leave each port as the end of each block does (R37). -/
theorem State.port_blocksEnd {m : Mode} (shaped : (s.port p).Sound m) :
    s.blocksEnd.port p = (s.port p).afterOutage (later s.sup.partTime 21600) := by
  rw [State.blocksEnd, State.port_startCheckpointTimer, State.port_ctuEnd, State.port_ptbEnd, State.port_fswEnd,
    State.port_fgaEnd, State.port_wksEnd, State.port_hlkEnd, State.port_cacEnd]
  simp only [State.ptbEnd_sup, State.fswEnd_sup, State.fgaEnd_sup, State.wksEnd_sup, State.hlkEnd_sup, State.cacEnd_sup]
  exact Port.afterOutage_eq shaped _

/-- An outage end neither locks nor unlocks a port, nor takes it into or out of a line test. -/
theorem Port.afterOutage_locks (hold : Nat) (q : Port) :
    ((q.afterOutage hold).state = .locked ↔ q.state = .locked) ∧ ((q.afterOutage hold).state = .lineTest ↔ q.state = .lineTest) := by
  have rest : restState q ≠ .locked ∧ restState q ≠ .lineTest := by
    unfold restState
    split <;> exact ⟨nofun, nofun⟩
  cases hst : q.state <;> simp [Port.afterOutage, hst, rest]

/-! The hand-over, field by field. -/

theorem State.handEnd_cac : s.handEnd.cac = s.cacEnd.cac := by simp [State.handEnd]

theorem State.handEnd_hlk :
    s.handEnd.hlk = { s.cacEnd.hlk with supervision := .supervised, token := 1, window := .noWindow } := by
  simp [State.handEnd]

theorem State.handEnd_nvs :
    s.handEnd.nvs = { s.cacEnd.nvs with cpTimer := some (checkpointPeriod s.sup.mode) } := by
  simp [State.handEnd]

/-- The hand-over leaves the arbiter with its counter alone, where the entries' ports are QUEUED and the grants' FED (R118). -/
theorem State.handEnd_fga (entries : ∀ e ∈ s.fga.queue, (s.port e.port).state = .queued)
    (grants : ∀ g ∈ s.fga.grants, (s.port g.port).state = .fed) :
    s.handEnd.fga = { queue := [], grants := [], counter := s.fga.counter } := by
  have ports (r : PortId) : s.cacEnd.hlkEnd.wksEnd.port r = (s.port r).wakingEnded := by
    rw [State.port_wksEnd, State.port_hlkEnd, State.port_cacEnd]
  have ended := s.cacEnd.hlkEnd.wksEnd.fgaEnd_fga
    (fun e mem => by
      have queued := entries e (by simpa using mem)
      simp [ports, Port.wakingEnded, queued])
    (fun g mem => by
      have fed := grants g (by simpa using mem)
      simp [ports, Port.wakingEnded, fed])
  simpa [State.handEnd] using ended

/-- A port's periodic test is wanted as STANDBY begins exactly if it was overdue before (R158). -/
theorem State.blocksEnd_periodicWanted (runs : s.cond = .running) (standby : s.sup.mode = .standby)
    {m : Mode} (shaped : (s.port p).Sound m) : s.blocksEnd.periodicWanted p ↔ overdue s p = true := by
  have cond : s.blocksEnd.cond = s.cond := by simp [State.blocksEnd]
  have sup : s.blocksEnd.sup = s.sup := by simp [State.blocksEnd]
  simp [State.periodicWanted, overdue, cond, sup, runs, standby, s.port_blocksEnd p shaped, Port.afterOutage]

/-- The hand-over at a port: the ends of the blocks, and the due time of an overdue line test one interval on (R37, R158). -/
theorem State.port_handEnd (runs : s.cond = .running) (standby : s.sup.mode = .standby)
    {m : Mode} (shaped : (s.port p).Sound m) :
    s.handEnd.port p = { (s.port p).afterOutage (later s.sup.partTime 21600) with
      periodicDue := if overdue s p then s.nextPeriodic else (s.port p).periodicDue } := by
  have interval : s.blocksEnd.nextPeriodic = s.nextPeriodic := by
    simp [State.nextPeriodic, State.blocksEnd, State.cacEnd_cac]
  have wanted := s.blocksEnd_periodicWanted p runs standby shaped
  rw [State.handEnd_eq, State.periodicsDue_port, interval]
  cases due : overdue s p
  · rw [if_neg (by rw [wanted, due]; exact nofun), s.port_blocksEnd p shaped]
    rfl
  · rw [if_pos (wanted.mpr due), s.port_blocksEnd p shaped]
    rfl

/-- The hand-over at the test queue: one new entry for each overdue port that had none (R158). -/
theorem State.handEnd_pdi (runs : s.cond = .running) (standby : s.sup.mode = .standby)
    {m : Mode} (shaped : ∀ p, (s.port p).Sound m) :
    s.handEnd.pdi = { s.pdi with queue := s.pdi.queue ++ periodicEntries s (overdue s) } := by
  have pdi : s.blocksEnd.pdi = s.pdi := by simp [State.blocksEnd]
  have sup : s.blocksEnd.sup = s.sup := by simp [State.blocksEnd]
  have wanted : (fun p => decide (s.blocksEnd.periodicWanted p)) = overdue s := by
    funext p
    rw [Bool.eq_iff_iff, decide_eq_true_iff, s.blocksEnd_periodicWanted p runs standby (shaped p)]
  rw [State.handEnd_eq, State.periodicsDue_pdi, wanted]
  simp only [periodicEntries, testWaits, pdi, sup]

/-! ### The end of an outage -/

/-- An outage end by its parts: the supervisor, OUTAGE_END, the checkpoint, and the hand-over to the blocks (R9). -/
theorem State.outageEnd_eq (d : Nat) :
    s.outageEnd d = ((s.supEnd d).raise .outageEnd).requestCheckpoint.handEnd := rfl

/-- An outage end at a port (R37, R158). -/
theorem State.port_outageEnd (d : Nat) (runs : s.cond = .running) {m : Mode} (shaped : (s.port p).Sound m) :
    (s.outageEnd d).port p = { (s.port p).afterOutage (later s.sup.partTime 21600) with
      periodicDue := if overdue s p then s.nextPeriodic else (s.port p).periodicDue } := by
  have ended := State.port_handEnd ((s.supEnd d).raise .outageEnd).requestCheckpoint p
    (by simpa using runs) (by simp) (m := m) (by simpa using shaped)
  rw [State.outageEnd_eq, ended]
  simp [overdue, State.nextPeriodic]

theorem State.outageEnd_pdi (d : Nat) (runs : s.cond = .running) {m : Mode} (shaped : ∀ p, (s.port p).Sound m) :
    (s.outageEnd d).pdi = { s.pdi with queue := s.pdi.queue ++ periodicEntries s (overdue s) } := by
  have ended := State.handEnd_pdi ((s.supEnd d).raise .outageEnd).requestCheckpoint
    (by simpa using runs) (by simp) (m := m) (by simpa using shaped)
  have same : overdue ((s.supEnd d).raise .outageEnd).requestCheckpoint = overdue s := by
    funext p
    simp [overdue]
  rw [State.outageEnd_eq, ended, same]
  simp [periodicEntries]

theorem State.outageEnd_cac (d : Nat) : (s.outageEnd d).cac = s.cacEnd.cac := by
  simp [State.outageEnd, State.handEnd_cac, State.cacEnd_cac]

theorem State.outageEnd_hlk (d : Nat) :
    (s.outageEnd d).hlk = { (if s.cac.stage = .noStage then raised s.hlk 6 else raised (raised s.hlk 6) 4) with
      supervision := .supervised, token := 1, window := .noWindow } := by
  rw [State.outageEnd_eq, State.handEnd_hlk, State.cacEnd_hlk]
  simp only [State.requestCheckpoint_hlk, State.requestCheckpoint_cac, State.raise_cac, State.supEnd_cac]
  rfl

theorem State.outageEnd_fga (d : Nat) (queue : s.QueueSound) (grants : s.GrantsSound) :
    (s.outageEnd d).fga = { queue := [], grants := [], counter := s.fga.counter } := by
  obtain ⟨-, -, -, -, queued⟩ := queue
  obtain ⟨-, -, -, fed⟩ := grants
  have ended := State.handEnd_fga ((s.supEnd d).raise .outageEnd).requestCheckpoint
    (fun e mem => by simpa using (queued e.port).mpr (List.mem_map_of_mem (by simpa using mem)))
    (fun g mem => by simpa using (fed g.port).mpr (List.mem_map_of_mem (by simpa using mem)))
  rw [State.outageEnd_eq, ended]
  simp

/-- An outage end keeps every port's lock. -/
theorem State.locked_outageEnd (d : Nat) (runs : s.cond = .running) {m : Mode} (shaped : (s.port p).Sound m) :
    (s.outageEnd d).locked p = s.locked p := by
  obtain ⟨locked, lineTest⟩ := (s.port p).afterOutage_locks (later s.sup.partTime 21600)
  refine State.locked_congr p ?_ ?_ (s.outageEnd_instrument d) <;> rw [s.port_outageEnd p d runs shaped]
  · exact locked
  · exact lineTest

/-- An outage end asks for a checkpoint, and by the stage change for another (R34, R37, R175). -/
theorem State.outageEnd_checkpointAsked (d : Nat) (runs : s.cond = .running) {m : Mode} (shaped : ∀ p, (s.port p).Sound m) :
    checkpointAsked { s.nvs with cpTimer := some 3600 } (s.outageEnd d) (s.cac.stage != .noStage) := by
  have nvs : (s.outageEnd d).nvs = { ((s.supEnd d).raise .outageEnd).requestCheckpoint.nvs with
      pendingCp := ((s.supEnd d).raise .outageEnd).requestCheckpoint.nvs.pendingCp || s.cac.stage != .noStage
      cpTimer := some 3600 } := by
    rw [State.outageEnd_eq, State.handEnd_nvs, State.cacEnd_nvs_of_busy _ (State.requestCheckpoint_busy _)]
    simp [checkpointPeriod]
  refine State.checkpointAsked_of_requested (s := (s.supEnd d).raise .outageEnd) nvs
    (State.carriesPresent_checkpointNow ?_ ?_ ?_ (fun p => ?_) ?_)
  · simp [State.outageEnd_cac, State.cacEnd_cac]
  · simp
  · simp
  · rw [s.locked_outageEnd p d runs (shaped p)]
    exact (State.locked_congr p (by simp) (by simp) rfl).symm
  · rw [nvs]
    obtain ⟨-, -, high, -⟩ := ((s.supEnd d).raise .outageEnd).requestCheckpoint_nvs
    exact high

/-- A state is another but for the fields that an outage end touches. -/
theorem State.eq_of_outer_fields {s t : State} (cond : t.cond = s.cond) (pins : t.pins = s.pins) (straps : t.straps = s.straps)
    (freeUses : t.freeUses = s.freeUses) (pending : t.pending = s.pending) :
    t = { s with
      sup := t.sup, cac := t.cac, ports := t.ports, wakes := t.wakes, fga := t.fga, pdi := t.pdi, nvs := t.nvs, hlk := t.hlk } := by
  rw [← cond, ← pins, ← straps, ← freeUses, ← pending]

/-- The return confirmation that runs out in OUTAGE ends the outage (R9). -/
theorem exec_returnConfirmationExpiry (runs : s.cond = .running) (outage : s.sup.mode = .outage)
    (confirming : s.sup.returnConf.isSome = true) :
    exec .returnConfirmationExpiry s = .next (s.outageEnd s.sup.outageTime) := by
  change execReturnConfirmationExpiry s = _
  rw [execReturnConfirmationExpiry, if_pos ⟨runs, outage, confirming⟩]

/-- Settles O14, block by block: the supervisor, the account, the host link, the wake list, the arbiter, the store, the ports, and the
test queue after an outage end, and that nothing else is touched. -/
theorem outageEnds : Obligations.OutageEnds := by
  intro s sound runs outage confirming
  obtain ⟨shaped, queue, grants, -, -, -, -, -, offStandby, -⟩ := sound
  obtain ⟨-, noFloat⟩ := offStandby (by rw [outage]; exact nofun)
  refine ⟨_, exec_returnConfirmationExpiry s runs outage confirming, s.outageEnd_sup _, ?_, s.outageEnd_hlk _, s.outageEnd_wakes _,
    s.outageEnd_fga _ queue grants, s.outageEnd_checkpointAsked _ runs shaped, fun p => s.port_outageEnd p _ runs (shaped p),
    s.outageEnd_pdi _ runs shaped, ?_⟩
  · rw [State.outageEnd_cac, State.cacEnd_cac, noFloat]
  · exact State.eq_of_outer_fields (s.outageEnd_cond _) (s.outageEnd_pins _) (s.outageEnd_straps _) (s.outageEnd_freeUses _)
      (s.outageEnd_pending _)

end Sys2Proof.Machine

/-! PROOF. The account sample (R18 to R29): the figures it forms, and that the stage and the credit it governs touch none of them. -/

namespace Sys2Proof.Machine

open Sys2Proof.Claims

variable (s : State) (p : PortId) (volts amps : Int) (valid : Bool)

/-! ### The arithmetic of one sample (R18, R19, R24 to R30) -/

theorem voltReading_eq : voltReading volts = if volts < 0 then 0 else if 65535 < volts then 65535 else volts.toNat := by
  unfold voltReading clampInt
  split
  · omega
  · split <;> omega

theorem ampReading_eq : ampReading amps = if amps < -30000 then -30000 else if 30000 < amps then 30000 else amps := by
  unfold ampReading clampInt
  split
  · omega
  · split <;> omega

/-- The integration, its signed sum brought between 0 and Q_limit (R25). -/
theorem integrate_eq (limit used : Nat) (i : Int) :
    integrate limit used i =
      (max 0 (min (limit : Int) (if 0 ≤ i then used + i else used - (-i) * 15 / 16))).toNat := by
  unfold integrate
  split <;> omega

/-- The run of low readings, one more up to 10 (R26). -/
theorem lowRun_eq {run : Nat} (h : run ≤ 10) (v threshold : Nat) :
    lowRun run v threshold = if v < threshold then min 10 (run + 1) else 0 := by
  unfold lowRun satInc
  split
  · split <;> omega
  · rfl

theorem useCurrent_amps (c : Cac) (reading : Int) : (useCurrent c reading valid).amps = if valid then reading else c.heldCurrent := by
  cases valid <;> rfl

/-- The run of invalid readings, one more up to 10 (R19). -/
theorem useCurrent_run {c : Cac} (h : c.invalidRun ≤ 10) (reading : Int) :
    (useCurrent c reading valid).run = if valid then 0 else min 10 (c.invalidRun + 1) := by
  cases valid
  · simp only [useCurrent, Bool.false_eq_true, if_false, satInc]
    split <;> omega
  · rfl

/-- The run reaches 10 with an invalid reading after nine of them (R19). -/
theorem useCurrent_newRun (c : Cac) (reading : Int) :
    (useCurrent c reading valid).newRun = decide (valid = false ∧ c.invalidRun = 9) := by
  cases valid
  · rw [Bool.eq_iff_iff]
    simp [useCurrent]
  · simp [useCurrent]

/-- The lifeline count (R50): only the port that the instrument stands at is in LINE_TEST. -/
theorem State.lifelineCount_eq (tests : s.TestsSound) : s.lifelineCount = lifelinesNow s := by
  obtain ⟨lineTest, -⟩ := tests
  have locked (p : PortId) : s.locked p =
      ((s.port p).state == .locked
        || ((s.port p).state == .lineTest && s.pdi.instrument.map (·.borrowed) == some .fromLocked)) := by
    rw [Bool.eq_iff_iff, State.locked_iff]
    have here := lineTest p
    cases hi : s.pdi.instrument <;> simp_all
  rw [State.lifelineCount, List.countP_eq_length_filter, lifelinesNow]
  congr 2
  funext p
  rw [locked, Bool.not_or, ← Bool.and_assoc]
  rfl

/-- A sum that counts some of the ports is the sum over those ports. -/
theorem sum_map_ite_eq_sum_filter (c : PortId → Bool) (f : PortId → Nat) :
    ∀ ps : List PortId, (ps.map fun p => if c p = true then f p else 0).sum = ((ps.filter c).map f).sum
  | [] => rfl
  | p :: ps => by
    rw [List.map_cons, List.sum_cons, sum_map_ite_eq_sum_filter c f ps, List.filter_cons]
    cases c p <;> simp

theorem State.drawn_eq : s.drawn = drawnNow s := by
  rw [drawnNow, ← sum_map_ite_eq_sum_filter, State.drawn]
  simp

/-! ### The sample, figure by figure -/

theorem sampleOf_volts : (sampleOf s volts amps valid).volts = voltReading volts := (voltReading_eq volts).symm

theorem sampleOf_amps :
    (sampleOf s volts amps valid).amps = (useCurrent s.cac (ampReading amps) valid).amps := by
  rw [useCurrent_amps, ampReading_eq]
  rfl

theorem sampleOf_limit : (sampleOf s volts amps valid).limit = limitOf s.cac.params := rfl

theorem sampleOf_run (run : s.cac.lowBankRun ≤ 10) (still : s.sup.mode ≠ .outage → s.cac.lowBankRun = 0) :
    (sampleOf s volts amps valid).run =
      if s.inOutage then lowRun s.cac.lowBankRun (voltReading volts) s.cac.params.emptyThreshold else s.cac.lowBankRun := by
  rw [lowRun_eq run, voltReading_eq]
  by_cases outage : s.sup.mode = .outage
  · simp [sampleOf, State.inOutage, outage]
  · simp [sampleOf, State.inOutage, outage, still outage]

theorem sampleOf_used :
    (sampleOf s volts amps valid).used =
      usedAfter s.sup.mode s.cac.float (limitOf s.cac.params)
        (integrate (limitOf s.cac.params) s.cac.qUsed (sampleOf s volts amps valid).amps) (sampleOf s volts amps valid).run := by
  rw [integrate_eq]
  cases hm : s.sup.mode <;> simp [sampleOf, usedAfter, limitOf, hm]

theorem sampleOf_usable :
    (sampleOf s volts amps valid).usable = limitOf s.cac.params - (sampleOf s volts amps valid).used := rfl

theorem sampleOf_reserve (tests : s.TestsSound) :
    (sampleOf s volts amps valid).reserve = reserveOf s.cac.params s.lifelineCount s.sup.outageTime := by
  rw [s.lifelineCount_eq tests]
  rfl

theorem sampleOf_spendable :
    (sampleOf s volts amps valid).spendable =
      (sampleOf s volts amps valid).usable - (sampleOf s volts amps valid).reserve := by
  change (if (sampleOf s volts amps valid).reserve < (sampleOf s volts amps valid).usable then
    (sampleOf s volts amps valid).usable - (sampleOf s volts amps valid).reserve else 0) = _
  split <;> omega

theorem sampleOf_horizon : (sampleOf s volts amps valid).horizon = horizonOf s.cac.params s.sup.outageTime := rfl

theorem sampleOf_allowance :
    (sampleOf s volts amps valid).allowance =
      allowanceOf (sampleOf s volts amps valid).spendable (sampleOf s volts amps valid).horizon := rfl

theorem sampleOf_drawn : (sampleOf s volts amps valid).drawn = s.drawn := s.drawn_eq.symm

/-- The full-bank correction acts on a confirmed float in STANDBY (R27). -/
theorem fullBank_iff (m : Mode) (f : FloatConf) : fullBank m f = true ↔ m = .standby ∧ f = .confirmed := by
  simp [fullBank]

/-- The figures of a sample as GET_ACCOUNT reports them (R23, R40). -/
def reportedFigures (x : Sample) (wasHeld : Bool) (lifelines : Nat) : Figures :=
  { volts := x.volts, amps := x.amps, wasHeld := wasHeld, usable := x.usable, reserve := x.reserve, spendable := x.spendable
    horizon := x.horizon, allowance := x.allowance, cap := x.allowance * 600, drawn := x.drawn, lifelines := lifelines }

/-- Whether the invalid run reaches 10 with this sample (R19). -/
abbrev State.tenthInvalid (s : State) (valid : Bool) : Prop := valid = false ∧ s.cac.invalidRun = 9

/-- What the steps of a sample before the stage rule make of the account (R23); the credit and the candidate are their own matter. -/
theorem State.sampleFigures_cac (run : s.cac.lowBankRun ≤ 10) (invalid : s.cac.invalidRun ≤ 10)
    (still : s.sup.mode ≠ .outage → s.cac.lowBankRun = 0) (tests : s.TestsSound) :
    (s.sampleFigures volts amps valid).cac = { s.cac with
      qLimit := (sampleOf s volts amps valid).limit
      qUsed := (sampleOf s volts amps valid).used
      heldCurrent := (sampleOf s volts amps valid).amps
      invalidRun := if valid then 0 else min 10 (s.cac.invalidRun + 1)
      uncertain := (s.cac.uncertain || decide (s.tenthInvalid valid)) && !fullBank s.sup.mode s.cac.float
      lowBankRun := (sampleOf s volts amps valid).run
      float := if fullBank s.sup.mode s.cac.float then .idle else s.cac.float
      figures := some (reportedFigures (sampleOf s volts amps valid) (!valid) (lifelinesNow s))
      credit := (s.sampleFigures volts amps valid).cac.credit
      candidate := (s.sampleFigures volts amps valid).cac.candidate } := by
  have held : (useCurrent s.cac (ampReading amps) valid).wasHeld = !valid := by cases valid <;> rfl
  rw [reportedFigures, sampleOf_drawn, sampleOf_allowance, sampleOf_horizon, sampleOf_spendable, sampleOf_reserve s _ _ _ tests,
    sampleOf_usable, sampleOf_used, sampleOf_amps, sampleOf_run s _ _ _ run still, sampleOf_volts, sampleOf_limit, ← s.lifelineCount_eq tests,
    ← useCurrent_run valid invalid (ampReading amps), ← useCurrent_newRun valid s.cac (ampReading amps), ← held]
  unfold State.sampleFigures
  dsimp only
  rw [← useCurrent_amps valid s.cac (ampReading amps)]
  split <;> rfl

/-- The sample leaves everything but the account and the event flags (R23). -/
theorem State.sampleFigures_frame :
    s.sampleFigures volts amps valid = { s with
      cac := (s.sampleFigures volts amps valid).cac, hlk := (s.sampleFigures volts amps valid).hlk } := by
  unfold State.sampleFigures
  dsimp only
  split <;> rfl

theorem State.sampleFigures_sup : (s.sampleFigures volts amps valid).sup = s.sup := by rw [State.sampleFigures_frame]

theorem State.sampleFigures_pdi : (s.sampleFigures volts amps valid).pdi = s.pdi := by rw [State.sampleFigures_frame]

/-- ACCOUNT_UNCERTAIN is raised as the invalid run reaches 10 (R19). -/
theorem State.sampleFigures_hlk :
    (s.sampleFigures volts amps valid).hlk = if s.tenthInvalid valid then raised s.hlk 14 else s.hlk := by
  have tenth := useCurrent_newRun valid s.cac (ampReading amps)
  unfold State.sampleFigures
  dsimp only
  rw [tenth]
  by_cases h : s.tenthInvalid valid
  · rw [if_pos h, if_pos (decide_eq_true h)]
    rfl
  · rw [if_neg h, if_neg (by simpa only [decide_eq_true_eq] using h)]

theorem State.sampleFigures_uncertain :
    kindSet (s.sampleFigures volts amps valid).hlk.flags 14 = (kindSet s.hlk.flags 14 || decide (s.tenthInvalid valid)) := by
  rw [State.sampleFigures_hlk]
  by_cases h : s.tenthInvalid valid
  · rw [if_pos h, decide_eq_true h]
    change kindSet (s.hlk.flags ||| kindBit 14) 14 = _
    simp [kindSet_raise]
  · rw [if_neg h, decide_eq_false h, Bool.or_false]

/-! ### The stage rule and the credit notices touch none of the figures (R30 to R34) -/

/-- What governs the stage moves, of the account, the stage and the promotion count, of the host link the flags but
ACCOUNT_UNCERTAIN, and nothing of the supervisor and the instrument. -/
structure State.GovernsOnly (s t : State) : Prop where
  sup : t.sup = s.sup
  pdi : t.pdi = s.pdi
  cac : t.cac = { s.cac with stage := t.cac.stage, promotion := t.cac.promotion }
  hlk : t.hlk = { s.hlk with flags := t.hlk.flags }
  uncertain : kindSet t.hlk.flags 14 = kindSet s.hlk.flags 14

theorem State.GovernsOnly.refl : s.GovernsOnly s := ⟨rfl, rfl, rfl, rfl, rfl⟩

theorem State.GovernsOnly.trans {s t u : State} (h : s.GovernsOnly t) (g : t.GovernsOnly u) : s.GovernsOnly u where
  sup := g.sup.trans h.sup
  pdi := g.pdi.trans h.pdi
  cac := by rw [g.cac, h.cac]
  hlk := by rw [g.hlk, h.hlk]
  uncertain := g.uncertain.trans h.uncertain

theorem State.FeedOnly.governsOnly {s t : State} (h : s.FeedOnly t) : s.GovernsOnly t where
  sup := h.sup
  pdi := h.pdi
  cac := by rw [h.cac]
  hlk := by rw [h.hlk]
  uncertain := by rw [h.hlk]

theorem State.governsOnly_setStage (st : Stage) : s.GovernsOnly (s.setStage st) where
  sup := s.setStage_sup st
  pdi := s.setStage_pdi st
  cac := by rw [State.setStage_cac]
  hlk := by
    rw [State.setStage_hlk]
    split <;> rfl
  uncertain := by
    rw [State.setStage_hlk]
    split
    · rfl
    · change kindSet (s.hlk.flags ||| kindBit 4) 14 = _
      simp [kindSet_raise]

theorem State.governsOnly_promotion (n : Nat) : s.GovernsOnly { s with cac := { s.cac with promotion := n } } :=
  ⟨rfl, rfl, rfl, rfl, rfl⟩

theorem State.governsOnly_applyStageRule : s.GovernsOnly s.applyStageRule := by
  unfold State.applyStageRule
  split
  · next cand h =>
    exact (s.governsOnly_promotion (stageRule s.cac.stage s.cac.promotion cand).2).trans (State.governsOnly_setStage _ _)
  · exact .refl s

theorem State.governsOnly_handStage : s.GovernsOnly s.handStage where
  sup := by simp [State.handStage, s.governsOnly_applyStageRule.sup]
  pdi := by simp [State.handStage, s.governsOnly_applyStageRule.pdi]
  cac := by simpa [State.handStage] using s.governsOnly_applyStageRule.cac
  hlk := by simpa [State.handStage] using s.governsOnly_applyStageRule.hlk
  uncertain := by simpa [State.handStage] using s.governsOnly_applyStageRule.uncertain

/-- Whatever the sample hands on, in whichever order, the figures stand. -/
theorem State.governsOnly_handOn (before : Int) : s.GovernsOnly (s.handOn before) := by
  have notice (n : CreditNotice) (t : State) : t.GovernsOnly (t.creditNotice n) := (t.feedOnly_creditNotice n).governsOnly
  unfold State.handOn
  split
  · exact s.governsOnly_handStage
  · next n _ =>
    split
    · exact s.governsOnly_applyStageRule.trans (notice n _)
    · have noticeFirst := (notice n s).trans (State.governsOnly_handStage _)
      have stageFirst := s.governsOnly_handStage.trans (notice n _)
      rcases s.eitherOrder_cases (State.creditNotice n) State.handStage with h | h | h <;> rw [h]
      · exact noticeFirst
      · exact ⟨noticeFirst.sup, noticeFirst.pdi, noticeFirst.cac, noticeFirst.hlk, noticeFirst.uncertain⟩
      · exact ⟨stageFirst.sup, stageFirst.pdi, stageFirst.cac, stageFirst.hlk, stageFirst.uncertain⟩

/-- An account sample outside START: the figures, and in OUTAGE what governs the stage (R23). -/
theorem State.accountSample_cases (runs : s.cond = .running) (started : s.sup.mode ≠ .start) :
    (s.sup.mode = .standby ∧ s.accountSample volts amps valid = s.sampleFigures volts amps valid)
      ∨ (s.sup.mode = .outage
          ∧ s.accountSample volts amps valid = (s.sampleFigures volts amps valid).handOn s.cac.credit) := by
  cases hm : s.sup.mode
  case start => exact absurd hm started
  all_goals simp [State.accountSample, runs, hm]

theorem State.governsOnly_accountSample (runs : s.cond = .running) (started : s.sup.mode ≠ .start) :
    (s.sampleFigures volts amps valid).GovernsOnly (s.accountSample volts amps valid) := by
  rcases s.accountSample_cases volts amps valid runs started with ⟨-, h⟩ | ⟨-, h⟩ <;> rw [h]
  · exact .refl _
  · exact State.governsOnly_handOn _ _

/-- Settles O19: the figures are those of `sampleFigures_cac`, and what governs the stage leaves them as they are. -/
theorem sampleFormsFigures : Obligations.SampleFormsFigures := by
  intro s volts amps valid account ports runs started
  obtain ⟨-, -, -, -, -, invalid, run, -⟩ := account
  obtain ⟨-, -, -, -, -, -, tests, offOutage, -⟩ := ports
  have still : s.sup.mode ≠ .outage → s.cac.lowBankRun = 0 := fun off => by
    obtain ⟨-, -, -, -, -, lowBankRun, -⟩ := offOutage off
    exact lowBankRun
  have governs := s.governsOnly_accountSample volts amps valid runs started
  have link := governs.hlk
  have cac := governs.cac
  rw [s.sampleFigures_cac volts amps valid run invalid still tests] at cac
  rw [State.sampleFigures_hlk] at link
  refine ⟨s.accountSample volts amps valid, rfl, ?_⟩
  refine ⟨(congrArg Cac.params cac :), (congrArg Cac.qLimit cac :), (congrArg Cac.qUsed cac :), (congrArg Cac.lowBankRun cac :),
    (congrArg Cac.heldCurrent cac :), (congrArg Cac.invalidRun cac :), ?uncertain, ?flag, ?float, (congrArg Cac.figures cac :), ?sup, ?pdi,
    ?masks, ?replies, fun standby => ?frame⟩
  case uncertain =>
    rw [congrArg Cac.uncertain cac, ← fullBank_iff]
    simp
  case flag => exact governs.uncertain.trans (s.sampleFigures_uncertain volts amps valid)
  case float =>
    rw [congrArg Cac.float cac]
    simp only [fullBank_iff]
  case sup => exact governs.sup.trans (s.sampleFigures_sup volts amps valid)
  case pdi => exact governs.pdi.trans (s.sampleFigures_pdi volts amps valid)
  case masks =>
    rw [link]
    split <;> rfl
  case replies =>
    rw [link]
    split <;> rfl
  case frame =>
    rcases s.accountSample_cases volts amps valid runs started with ⟨-, same⟩ | ⟨outage, -⟩
    · rw [same]
      exact s.sampleFigures_frame volts amps valid
    · rw [standby] at outage
      exact nomatch outage

end Sys2Proof.Machine

/-! PROOF. SET_PROFILE on a port that is not enabled (R53, R158): the profile it stores, and what enabling leaves of the port, its wake
entry and its periodic line test. -/

namespace Sys2Proof.Machine

open Sys2Proof.Claims

variable (s : State) (p r : PortId) (new : Profile)

/-! ### The values of the request (R42, R51) -/

theorem clampNat_eq_brought {lo hi : Nat} (h : lo ≤ hi) (n : Nat) : clampNat lo hi n = brought lo hi n := by
  unfold clampNat brought
  split
  · omega
  · split <;> omega

theorem yesNoOf_eq {n : Nat} (h : n ≤ 1) : yesNoOf n = some (n == 1) := by
  obtain rfl | rfl : n = 0 ∨ n = 1 := by omega
  · rfl
  · rfl

theorem classOf_eq {n : Nat} (above : 1 ≤ n) (below : n ≤ 3) : classOf n = some (classNow n) := by
  obtain rfl | rfl | rfl : n = 1 ∨ n = 2 ∨ n = 3 := by omega
  · rfl
  · rfl
  · rfl

/-- Good codes store the profile of R51. -/
theorem storedProfile_eq {g : ProfileRequest} (good : codesGood g) : storedProfile g = some (profileKept g) := by
  obtain ⟨enabled, feedOnWake, above, below⟩ := good
  simp [storedProfile, profileKept, yesNoOf_eq enabled, yesNoOf_eq feedOnWake, classOf_eq above below, storedInterval,
    clampNat_eq_brought]

/-- The table of the effective intervals, as the statements write it (R86). -/
theorem effectiveInterval_eq (e : EffStage) (c : ServiceClass) (w : Nat) : effectiveInterval e c w = intervalNow e c w := by
  cases e
  case openStage => simp [effectiveInterval, intervalNow, intervalProduct]
  case conserve => cases c <;> simp [effectiveInterval, intervalNow, intervalProduct]
  case reserve => cases c <;> simp [effectiveInterval, intervalNow, intervalProduct]
  all_goals simp [effectiveInterval, intervalNow]

theorem State.interval_eq : s.interval p = intervalOf s p := effectiveInterval_eq _ _ _

/-- The effective interval rests on the effective stage and the profile alone. -/
theorem intervalOf_congr {s t : State} (eff : t.eff = s.eff) (profile : (t.port p).profile = (s.port p).profile) :
    intervalOf t p = intervalOf s p := by
  rw [intervalOf, intervalOf, eff, profile]

/-! ### The reply (R180 to R182) -/

/-- A reply with data built on a state whose replies and prior-fault flag are still those of the request. -/
theorem State.answered_answer {s t : State} {code : Nat} {x : Result} (data : List Byte) (below : code < 0x80)
    (carries : x.carriesData = true) (replies : t.hlk.replies = s.hlk.replies) (fault : t.hlk.priorFault = s.hlk.priorFault) :
    answered s (t.answer code x data) code x data := by
  refine ⟨rfl, ?_⟩
  rw [State.answer_hlk, ← replies, ← fault, replyCode, if_pos below, if_pos carries]
  rfl

/-- SET_PROFILE with good operands, taken while supervision stands: the profile is stored and answered (R51). -/
theorem exec_setProfile {g : ProfileRequest} (taken : takes s) (supervised : s.hlk.supervision = .supervised) (port : g.port = p.val)
    (good : codesGood g) :
    exec (.setProfile g) s = .next ((s.storeProfile p (profileKept g)).answer 0x11
      (if profileMoved g then .okClamped else .ok) (profileData (profileKept g))) := by
  obtain ⟨runs, unrestarted, room, started⟩ := taken
  change execSetProfile g s = _
  rw [execSetProfile, s.takeRequest_taken runs unrestarted room started, profileAnswer, port, withPort_val, storedProfile_eq good]
  simp [supervised]
  rfl

/-! ### A port that is not enabled (R44, R84, R156) -/

variable {s p}

/-- Past START a port that is not enabled is OFF (R44). -/
theorem State.PortsSound.off (sound : s.PortsSound) (started : s.sup.mode ≠ .start) (disabled : (s.port p).profile.enabled = false) :
    (s.port p).state = .off := by
  obtain ⟨shaped, -⟩ := sound
  obtain ⟨-, off, -⟩ := shaped p
  exact (off started).mpr disabled

/-- Only enabled ports stand in the wake list (R84). -/
theorem State.PortsSound.wakeOf_disabled (sound : s.PortsSound) (disabled : (s.port p).profile.enabled = false) :
    s.wakeOf p = none := by
  obtain ⟨-, -, -, -, -, ⟨-, -, -, entries⟩, -⟩ := sound
  rw [State.wakeOf, List.find?_eq_none.mpr, Option.map_none]
  intro e mem same
  obtain ⟨enabled, -⟩ := entries e mem
  rw [beq_iff_eq.mp same, disabled] at enabled
  exact nomatch enabled

/-- Only enabled ports stand in the test queue (R156). -/
theorem State.PortsSound.testQueued_disabled (sound : s.PortsSound) (disabled : (s.port p).profile.enabled = false) :
    s.testQueued p = false := by
  obtain ⟨-, -, -, -, -, -, ⟨-, -, -, -, entries⟩, -⟩ := sound
  rw [State.testQueued, List.any_eq_false]
  intro e mem same
  have enabled := entries e mem
  rw [beq_iff_eq.mp same, disabled] at enabled
  exact nomatch enabled

variable (s p)

/-! ### Enabling (R53, R158) -/

/-- The record of an OFF port that is enabled with a profile: IDLE, its receiver listening. -/
def Port.enabledAs (new : Profile) (q : Port) : Port := { q with profile := new, state := .idle, rx := .hunt }

/-- The port enabled, before its wake entry and its line test. -/
def State.enabledAs (p : PortId) (new : Profile) (s : State) : State := s.setPort p ((s.port p).enabledAs new)

/-- The marks that enabling clears and the transmitter that it empties are clear and empty in OFF. -/
theorem Port.enter_idle_of_off {m : Mode} {q : Port} (sound : q.Sound m) (off : q.state = .off) :
    Port.enter .idle { q with profile := new, term := .unknown, hold := false, standbyFeed := false, cellLow := false }
      = q.enabledAs new := by
  obtain ⟨-, -, -, empty, -, -, -, -, -, -, -, -, -, -, -, -, clear, -⟩ := sound
  obtain ⟨term, hold, standbyFeed, cellLow, -⟩ := clear off
  have silent : q.state.silent = true := by rw [off]; rfl
  rw [Port.enter, if_neg (by decide), if_pos silent]
  simp only [Port.enabledAs, term, hold, standbyFeed, cellLow, empty silent]

theorem State.port_enabledAs_self : (s.enabledAs p new).port p = (s.port p).enabledAs new := s.port_setPort_self p _

theorem State.port_enabledAs_ne (h : r ≠ p) : (s.enabledAs p new).port r = s.port r := s.port_setPort_ne p r _ h

/-- A port that stays disabled only stores the profile (R53). -/
theorem State.storeProfile_disabled (old : (s.port p).profile.enabled = false) (stays : new.enabled = false) :
    s.storeProfile p new = s.modPort p fun q => { q with profile := new } := by
  simp only [State.storeProfile, old, stays]

/-- Enabling: a wake entry 30 s on in OUTAGE where there is an interval, otherwise the periodic test if it is due (R53, R158). -/
theorem State.storeProfile_enables (sound : s.PortsSound) (started : s.sup.mode ≠ .start)
    (old : (s.port p).profile.enabled = false) (enables : new.enabled = true) :
    (s.sup.mode = .outage ∧ (intervalOf (s.enabledAs p new) p).isSome = true
        ∧ s.storeProfile p new = (s.enabledAs p new).putWake p (later s.sup.outageTime 30))
      ∨ (¬ (s.sup.mode = .outage ∧ (intervalOf (s.enabledAs p new) p).isSome = true)
        ∧ s.storeProfile p new = (s.enabledAs p new).periodicDue p) := by
  have idle : (((s.modPort p fun q => { q with profile := new }).modPort p fun q =>
      { q with term := .unknown, hold := false, standbyFeed := false, cellLow := false }).enter p .idle) = s.enabledAs p new := by
    have off := sound.off started old
    obtain ⟨shaped, -⟩ := sound
    rw [State.enabledAs, ← Port.enter_idle_of_off new (shaped p) off]
    simp [State.enter, State.modPort, State.setPort, State.port]
  have outage : (s.enabledAs p new).inOutage = true ↔ s.sup.mode = .outage := beq_iff_eq
  simp only [State.storeProfile, old, enables, State.enablePort, idle, outage, State.interval_eq]
  split
  · next h =>
    obtain ⟨inOutage, interval⟩ := h
    exact .inl ⟨inOutage, interval, rfl⟩
  · next h => exact .inr ⟨h, rfl⟩

/-- A profile stored into a port that was not enabled reaches the ports, the wake list and the test queue, and nothing else. -/
theorem State.storeProfile_frame (sound : s.PortsSound) (started : s.sup.mode ≠ .start)
    (old : (s.port p).profile.enabled = false) :
    s.storeProfile p new = { s with
      ports := (s.storeProfile p new).ports, wakes := (s.storeProfile p new).wakes, pdi := (s.storeProfile p new).pdi } := by
  cases enables : new.enabled
  case false => rw [s.storeProfile_disabled p new old enables]; rfl
  case true =>
    rcases s.storeProfile_enables p new sound started old enables with ⟨-, -, h⟩ | ⟨-, h⟩ <;> rw [h]
    · rfl
    · rw [State.periodicDue_frame]; rfl

/-! What enabling leaves, field by field. -/

/-- Whether a port that is enabled now is tested at once: STANDBY, and its due time reached (R158). -/
abbrev State.testedOnEnabling (s : State) (p : PortId) : Prop := s.sup.mode = .standby ∧ (s.port p).periodicDue ≤ s.sup.partTime

theorem State.periodicWanted_enabledAs (runs : s.cond = .running) (enables : new.enabled = true) :
    (s.enabledAs p new).periodicWanted p ↔ s.testedOnEnabling p := by
  rw [State.periodicWanted, State.port_enabledAs_self]
  constructor
  · rintro ⟨-, standby, -, due⟩
    exact ⟨standby, due⟩
  · rintro ⟨standby, due⟩
    exact ⟨runs, standby, enables, due⟩

theorem State.not_testedOnEnabling (outage : s.sup.mode = .outage) : ¬ s.testedOnEnabling p := by
  rintro ⟨standby, -⟩
  rw [outage] at standby
  exact nomatch standby

theorem State.port_storeProfile_enables (sound : s.PortsSound) (runs : s.cond = .running) (started : s.sup.mode ≠ .start)
    (old : (s.port p).profile.enabled = false) (enables : new.enabled = true) :
    (s.storeProfile p new).port p = { (s.port p).enabledAs new with
      periodicDue := if s.testedOnEnabling p then s.nextPeriodic else (s.port p).periodicDue } := by
  rcases s.storeProfile_enables p new sound started old enables with ⟨outage, -, h⟩ | ⟨-, h⟩ <;> rw [h]
  · rw [if_neg (s.not_testedOnEnabling p outage), State.port_putWake, State.port_enabledAs_self]
    rfl
  · simp only [State.periodicDue_port, State.periodicWanted_enabledAs s p new runs enables, State.port_enabledAs_self, true_and]
    split <;> rfl

theorem State.port_storeProfile_ne (sound : s.PortsSound) (started : s.sup.mode ≠ .start)
    (old : (s.port p).profile.enabled = false) (other : r ≠ p) : (s.storeProfile p new).port r = s.port r := by
  cases enables : new.enabled
  case false => rw [s.storeProfile_disabled p new old enables, s.port_modPort_ne p r _ other]
  case true =>
    rcases s.storeProfile_enables p new sound started old enables with ⟨-, -, h⟩ | ⟨-, h⟩ <;> rw [h]
    · rw [State.port_putWake, s.port_enabledAs_ne p r new other]
    · rw [State.periodicDue_port_ne _ p r other, s.port_enabledAs_ne p r new other]

theorem State.storeProfile_enables_pdi (sound : s.PortsSound) (runs : s.cond = .running) (started : s.sup.mode ≠ .start)
    (old : (s.port p).profile.enabled = false) (enables : new.enabled = true) :
    (s.storeProfile p new).pdi =
      if s.testedOnEnabling p then { s.pdi with queue := s.pdi.queue ++ [⟨p, .periodic, s.sup.partTime⟩] } else s.pdi := by
  rcases s.storeProfile_enables p new sound started old enables with ⟨outage, -, h⟩ | ⟨-, h⟩ <;> rw [h]
  · rw [if_neg (s.not_testedOnEnabling p outage)]
    rfl
  · have unqueued : (s.enabledAs p new).testQueued p = false := sound.testQueued_disabled old
    simp only [State.periodicDue_pdi, State.periodicWanted_enabledAs s p new runs enables, unqueued, and_true]
    split
    · rfl
    · exact congrArg (fun queue => { s.pdi with queue }) (List.append_nil _)

theorem State.wakeOf_storeProfile_enables (sound : s.PortsSound) (started : s.sup.mode ≠ .start)
    (old : (s.port p).profile.enabled = false) (enables : new.enabled = true) :
    (s.storeProfile p new).wakeOf p =
      if s.sup.mode = .outage ∧ (intervalOf (s.enabledAs p new) p).isSome = true then some (later s.sup.outageTime 30) else none := by
  rcases s.storeProfile_enables p new sound started old enables with ⟨outage, interval, h⟩ | ⟨unwoken, h⟩ <;> rw [h]
  · rw [if_pos ⟨outage, interval⟩, State.wakeOf_putWake_self]
  · rw [if_neg unwoken, State.wakeOf, State.periodicDue_wakes]
    exact sound.wakeOf_disabled old

theorem State.wakeOf_storeProfile_ne (sound : s.PortsSound) (started : s.sup.mode ≠ .start)
    (old : (s.port p).profile.enabled = false) (other : r ≠ p) : (s.storeProfile p new).wakeOf r = s.wakeOf r := by
  cases enables : new.enabled
  case false => rw [s.storeProfile_disabled p new old enables]; rfl
  case true =>
    rcases s.storeProfile_enables p new sound started old enables with ⟨-, -, h⟩ | ⟨-, h⟩ <;> rw [h]
    · rw [State.wakeOf_putWake_ne _ p r _ other]
      rfl
    · rw [State.wakeOf, State.periodicDue_wakes]
      rfl

theorem State.intervalOf_storeProfile_enables (sound : s.PortsSound) (runs : s.cond = .running) (started : s.sup.mode ≠ .start)
    (old : (s.port p).profile.enabled = false) (enables : new.enabled = true) :
    intervalOf (s.storeProfile p new) p = intervalOf (s.enabledAs p new) p := by
  refine intervalOf_congr p ?eff ?profile
  case eff => rw [s.storeProfile_frame p new sound started old]; rfl
  case profile =>
    rw [s.port_storeProfile_enables p new sound runs started old enables, State.port_enabledAs_self]

/-- Settles O36, by whether the new profile enables the port: its record, the test queue, the wake list, the reply, and that nothing
else is touched. -/
theorem portEnabled : Obligations.PortEnabled := by
  intro s g p sound taken supervised port good old
  have ⟨runs, _, _, started⟩ := taken
  have frame := s.storeProfile_frame p (profileKept g) sound started old
  have reply : (if profileMoved g then Result.okClamped else .ok).carriesData = true := by split <;> rfl
  refine ⟨_, exec_setProfile s p taken supervised port good, ?port, ?pdi,
    fun q other => s.port_storeProfile_ne p q _ sound started old other,
    fun q other => s.wakeOf_storeProfile_ne p q _ sound started old other, ?wake,
    State.answered_answer _ (by decide) reply (by rw [frame]) (by rw [frame]), ?frame⟩
  case frame =>
    rw [frame]
    rfl
  case port =>
    rw [State.port_answer]
    split
    · next one =>
      rw [s.port_storeProfile_enables p _ sound runs started old (beq_iff_eq.mpr one)]
      simp only [one, true_and]
      rfl
    · next one =>
      rw [s.storeProfile_disabled p _ old (beq_eq_false_iff_ne.mpr one), State.port_modPort_self]
  case pdi =>
    rw [State.answer_pdi]
    by_cases one : g.enabled = 1
    · rw [s.storeProfile_enables_pdi p _ sound runs started old (beq_iff_eq.mpr one)]
      simp only [one, true_and]
    · rw [s.storeProfile_disabled p _ old (beq_eq_false_iff_ne.mpr one), if_neg fun ⟨enables, _⟩ => one enables]
      rfl
  case wake =>
    change (s.storeProfile p (profileKept g)).wakeOf p = _
    by_cases one : g.enabled = 1
    · have enables : (profileKept g).enabled = true := beq_iff_eq.mpr one
      rw [s.wakeOf_storeProfile_enables p _ sound started old enables,
        ← s.intervalOf_storeProfile_enables p _ sound runs started old enables]
      simp only [one, true_and]
      rfl
    · rw [s.storeProfile_disabled p _ old (beq_eq_false_iff_ne.mpr one), if_neg fun ⟨enables, _⟩ => one enables]
      exact sound.wakeOf_disabled old

end Sys2Proof.Machine

/-! PROOF. WAKE (R90, R99, R100, R165): the judgement of the request, what waking and the abort of a line test leave of a port, and the
reply. -/

namespace Sys2Proof.Machine

open Sys2Proof.Claims

variable (s : State) (p r : PortId) (urgency : Nat)

/-! ### Waking a port (R90) -/

/-- A wake pattern asked for fills its slot, unless one is being sent (R78). -/
theorem Transmitter.ask_wakePattern (x : Transmitter) :
    x.ask .wakePattern = { x with wakeSlot := x.wakeSlot || decide (x.sending ≠ some .wakePattern) } := by
  by_cases sends : x.sending = some .wakePattern
  · rw [Transmitter.ask, if_pos sends, decide_eq_false (fun unsent => unsent sends), Bool.or_false]
  · rw [Transmitter.ask, if_neg sends, decide_eq_true sends, Bool.or_true]

/-- The check-in timer runs in WAKING alone (R89). -/
theorem Port.Sound.checkin_eq_none {m : Mode} {q : Port} (sound : q.Sound m) (unwoken : q.state ≠ .waking) : q.checkin = none := by
  obtain ⟨-, -, -, -, -, -, -, -, -, -, -, -, -, -, -, waking, -⟩ := sound
  exact Option.not_isSome_iff_eq_none.mp fun runs => unwoken (waking runs)

/-- Waking a port whose check-in timer is stopped moves its state and asks for a wake pattern, and no more. -/
theorem State.wakePort_port_of_stopped (stopped : (s.port p).checkin = none) :
    (s.wakePort p).port p = ((s.port p).enter .waking).ask .wakePattern := by
  have kept : { s.port p with checkin := none } = s.port p := by rw [← stopped]
  rw [State.wakePort_port_self, kept]

/-- A port that is heard is woken: only its state and its wake pattern's slot move. -/
theorem State.wakePort_port_of_heard (heard : (s.port p).state.silent = false) (stopped : (s.port p).checkin = none) :
    (s.wakePort p).port p = { s.port p with
      state := .waking
      tx := { (s.port p).tx with
        wakeSlot := (s.port p).tx.wakeSlot || decide ((s.port p).tx.sending ≠ some .wakePattern) } } := by
  rw [s.wakePort_port_of_stopped p stopped, Port.enter_heard rfl heard, Port.ask_heard rfl, Transmitter.ask_wakePattern]

/-- A port that is woken out of a silent state begins with a listening receiver and nothing but its wake pattern to send. -/
theorem State.wakePort_port_of_silent (silent : (s.port p).state.silent = true) (stopped : (s.port p).checkin = none) :
    (s.wakePort p).port p = { s.port p with state := .waking, rx := .hunt, tx := ⟨true, none, none, none⟩ } := by
  rw [s.wakePort_port_of_stopped p stopped, Port.enter, if_neg (by decide), if_pos silent]
  rfl

theorem State.othersKept_wakePort : othersKept s (s.wakePort p) p := fun r other => s.wakePort_port_ne p r other

/-- Waking reaches the ports and the wake list, and nothing else. -/
theorem State.wakePort_frame :
    s.wakePort p = { s with ports := (s.wakePort p).ports, wakes := s.wakes.filter (fun e => e.port != p) } := by
  rfl

/-! ### A line test aborted (R165) -/

/-- An abort reaches the ports, the instrument and the host link's events, and nothing else. -/
theorem State.abortTest_frame :
    s.abortTest p = { s with
      ports := (s.abortTest p).ports, pdi := { s.pdi with instrument := none }, hlk := raisedPort s.hlk .lineTestDone p } := by
  rfl

theorem State.abortTest_port_self : (s.abortTest p).port p = { s.port p with lineAttempt := some .aborted } := by
  rw [State.abortTest, State.port_raisePort, State.port_modPort_self]
  rfl

theorem State.abortTest_port_ne (other : r ≠ p) : (s.abortTest p).port r = s.port r := by
  rw [State.abortTest, State.port_raisePort, State.port_modPort_ne _ _ _ _ other]
  rfl

/-- A port under test, aborted and woken: out of LINE_TEST it listens, and has nothing but its wake pattern to send. -/
theorem State.abortTest_wakePort_port_self (lineTest : (s.port p).state = .lineTest) (stopped : (s.port p).checkin = none) :
    ((s.abortTest p).wakePort p).port p = { s.port p with
      state := .waking, rx := .hunt, tx := ⟨true, none, none, none⟩, lineAttempt := some .aborted } := by
  have aborted := s.abortTest_port_self p
  rw [State.wakePort_port_of_silent _ p (by rw [aborted, lineTest]; rfl) (by rw [aborted, stopped]), aborted]

/-- The abort and the waking reach the ports, the wake list, the instrument and the host link's events. -/
theorem State.abortTest_wakePort_frame :
    (s.abortTest p).wakePort p = { s with
      ports := ((s.abortTest p).wakePort p).ports, wakes := s.wakes.filter (fun e => e.port != p)
      pdi := { s.pdi with instrument := none }, hlk := raisedPort s.hlk .lineTestDone p } := by
  have woken := (s.abortTest p).wakePort_frame p
  have aborted := s.abortTest_frame p
  generalize (s.abortTest p).wakePort p = t at woken
  generalize s.abortTest p = u at woken aborted
  rw [woken, aborted]

theorem State.othersKept_abortTest_wakePort : othersKept s ((s.abortTest p).wakePort p) p := fun r other =>
  ((s.abortTest p).wakePort_port_ne p r other).trans (s.abortTest_port_ne p r other)

/-! ### The judgement (R99) -/

/-- The cases of R99 in their order, for a port that exists. -/
theorem wakeAnswer_val :
    wakeAnswer p.val urgency s =
      if 1 < urgency then refuse .badValue s
      else if s.sup.mode = .standby then refuse .refusedMode s
      else if s.hlk.supervision = .autonomous then refuse .refusedAutonomous s
      else if (s.port p).state = .off then refuse .notProvisioned s
      else if s.eff = .exhausted ∧ urgency = 0 then refuse .refusedStage s
      else wakeByState p (urgency == 1) s :=
  withPort_val s p _

section Judged

variable {s urgency} (coded : urgency ≤ 1) (outage : s.sup.mode = .outage) (supervised : s.hlk.supervision = .supervised)
include coded outage supervised

/-- In a supervised outage, a good urgency code leaves the port and the stage to be judged. -/
theorem wakeAnswer_supervised :
    wakeAnswer p.val urgency s =
      if (s.port p).state = .off then refuse .notProvisioned s
      else if s.eff = .exhausted ∧ urgency = 0 then refuse .refusedStage s
      else wakeByState p (urgency == 1) s := by
  simp [wakeAnswer_val, Nat.not_lt.mpr coded, outage, supervised]

/-- A WAKE that passes every case of R99 is acted on by port state. -/
theorem wakeAnswer_passed (on : (s.port p).state ≠ .off) (stage : s.eff ≠ .exhausted ∨ urgency = 1) :
    wakeAnswer p.val urgency s = wakeByState p (urgency == 1) s := by
  rw [wakeAnswer_supervised p coded outage supervised, if_neg on, if_neg]
  rintro ⟨exhausted, unurgent⟩
  rcases stage with unspent | urgent
  · exact unspent exhausted
  · omega

end Judged

/-! ### The port states (R100) -/

section ByState

variable {s p} (urgent : Bool)

theorem wakeByState_idle (idle : (s.port p).state = .idle) : wakeByState p urgent s = acted p (s.wakePort p) := by
  rw [wakeByState, idle]

/-- A port awake or waiting is answered with its state, unchanged. -/
theorem wakeByState_up
    (up : (s.port p).state = .waking ∨ (s.port p).state = .awake ∨ (s.port p).state = .queued ∨ (s.port p).state = .fed) :
    wakeByState p urgent s = acted p s := by
  rcases up with h | h | h | h <;> rw [wakeByState, h]

theorem wakeByState_refused
    (bound : (s.port p).state = .cellTest ∨ (s.port p).state = .retry ∨ (s.port p).state = .locked) :
    wakeByState p urgent s = refuse .refusedState s := by
  rcases bound with h | h | h <;> rw [wakeByState, h]

/-- A line test runs on if the request is not urgent or the port is held as locked. -/
theorem wakeByState_lineTest_kept (lineTest : (s.port p).state = .lineTest) (keeps : urgent = false ∨ s.locked p = true) :
    wakeByState p urgent s = refuse .refusedState s := by
  simp only [wakeByState, lineTest]
  refine if_neg ?_
  rintro ⟨isUrgent, unlocked⟩
  rcases keeps with h | h <;> simp [h] at isUrgent unlocked

theorem wakeByState_lineTest_aborted (lineTest : (s.port p).state = .lineTest) (unlocked : s.locked p = false) :
    wakeByState p true s = acted p ((s.abortTest p).wakePort p) := by
  simp [wakeByState, lineTest, unlocked]

end ByState

/-! ### The reply (R180 to R182) -/

/-- A reply built, as the statements write it, where its result carries the data it is given. -/
theorem State.answer_eq_replied {code : Nat} {x : Result} {data : List Byte} (below : code < 0x80)
    (carries : x.carriesData = true ∨ data = []) : s.answer code x data = replied s code x data := by
  have sent : (if x.carriesData then data else []) = data := by
    rcases carries with h | h
    · exact if_pos h
    · rw [h, ite_self]
  rw [State.answer, replied, replyCode, if_pos below, sent]

section Taken

variable {s p urgency} (taken : takes s)
include taken

/-- A WAKE that is taken ends in the reply to its judgement. -/
theorem exec_wake {a : Answer} (judged : wakeAnswer p.val urgency s = a) :
    exec (.wake p.val urgency) s = .next (a.state.answer 0x20 a.result a.data) := by
  obtain ⟨runs, unrestarted, room, started⟩ := taken
  change execWake p.val urgency s = _
  rw [execWake, s.takeRequest_taken runs unrestarted room started, judged]

theorem exec_wake_refused {x : Result} (judged : wakeAnswer p.val urgency s = refuse x s) :
    exec (.wake p.val urgency) s = .next (replied s 0x20 x []) := by
  rw [exec_wake taken judged]
  exact congrArg _ (s.answer_eq_replied (by decide) (.inr rfl))

/-- A WAKE that finds the port up only reports its state. -/
theorem exec_wake_up (judged : wakeAnswer p.val urgency s = acted p s) :
    exec (.wake p.val urgency) s = .next (replied s 0x20 .ok (stateByte s p)) := by
  rw [exec_wake taken judged]
  exact congrArg _ (s.answer_eq_replied (by decide) (.inl rfl))

end Taken

/-- The reply to a WAKE that left the port WAKING. -/
theorem State.answered_woken {s t : State} {p : PortId} (waking : (t.port p).state = .waking)
    (replies : t.hlk.replies = s.hlk.replies) (fault : t.hlk.priorFault = s.hlk.priorFault) :
    answered s (t.answer 0x20 .ok (t.stateData p)) 0x20 .ok [2#8] := by
  have data : t.stateData p = [2#8] := by rw [State.stateData, waking]; rfl
  rw [data]
  exact State.answered_answer _ (by decide) rfl replies fault

/-! ### The two ways to be woken -/

section Woken

variable {s p urgency} (sound : s.PortsSound) (taken : takes s)
include sound taken

/-- An IDLE port woken: what is left of it, of the wake list and of the rest, and the reply. -/
theorem exec_wake_idle (idle : (s.port p).state = .idle) (judged : wakeAnswer p.val urgency s = acted p (s.wakePort p)) :
    answers (exec (.wake p.val urgency) s) fun t =>
      t.port p = { s.port p with
          state := .waking
          tx := { (s.port p).tx with
            wakeSlot := (s.port p).tx.wakeSlot || decide ((s.port p).tx.sending ≠ some .wakePattern) } }
        ∧ othersKept s t p ∧ t.wakes = s.wakes.filter (fun e => e.port != p) ∧ answered s t 0x20 .ok [2#8]
        ∧ t = { s with
            ports := t.ports, wakes := t.wakes
            hlk := { s.hlk with replies := t.hlk.replies, priorFault := false } } := by
  obtain ⟨shaped, -⟩ := sound
  have woken := s.wakePort_port_of_heard p (by rw [idle]; rfl) ((shaped p).checkin_eq_none (by rw [idle]; decide))
  have others := s.othersKept_wakePort p
  have frame := s.wakePort_frame p
  generalize s.wakePort p = t at judged woken others frame
  exact ⟨_, exec_wake taken judged, woken, others, by rw [frame]; rfl,
    State.answered_woken (by rw [woken]) (by rw [frame]) (by rw [frame]), by rw [frame]; rfl⟩

/-- A line test aborted and its port woken: the port, the instrument, the wake list, LINE_TEST_DONE and the reply. -/
theorem exec_wake_aborts (lineTest : (s.port p).state = .lineTest)
    (judged : wakeAnswer p.val urgency s = acted p ((s.abortTest p).wakePort p)) :
    answers (exec (.wake p.val urgency) s) fun t =>
      t.port p = { s.port p with
          state := .waking, rx := .hunt, tx := ⟨true, none, none, none⟩, lineAttempt := some .aborted }
        ∧ othersKept s t p ∧ t.wakes = s.wakes.filter (fun e => e.port != p)
        ∧ t.pdi = { s.pdi with instrument := none } ∧ answered s t 0x20 .ok [2#8]
        ∧ t = { s with
            ports := t.ports, wakes := t.wakes, pdi := t.pdi
            hlk := { raisedPort s.hlk .lineTestDone p with replies := t.hlk.replies, priorFault := false } } := by
  obtain ⟨shaped, -⟩ := sound
  have woken := s.abortTest_wakePort_port_self p lineTest ((shaped p).checkin_eq_none (by rw [lineTest]; decide))
  have others := s.othersKept_abortTest_wakePort p
  have frame := s.abortTest_wakePort_frame p
  generalize (s.abortTest p).wakePort p = t at judged woken others frame
  exact ⟨_, exec_wake taken judged, woken, others, by rw [frame]; rfl, by rw [frame]; rfl,
    State.answered_woken (by rw [woken]) (by rw [frame]; rfl) (by rw [frame]; rfl), by rw [frame]; rfl⟩

end Woken

/-- Settles O50: the cases of R99 in their order, then those of R100 by port state. -/
theorem hostWakes : Obligations.HostWakes := by
  intro s p urgency sound taken
  refine ⟨fun above => ?badValue, fun coded standby => ?standby, fun coded outage supervised => ?judged⟩
  case badValue => exact exec_wake_refused taken (by rw [wakeAnswer_val, if_pos above])
  case standby => exact exec_wake_refused taken (by rw [wakeAnswer_val, if_neg (Nat.not_lt.mpr coded), if_pos standby])
  case judged =>
    have judged := wakeAnswer_supervised p coded outage supervised
    have passed {st : PortState} (state : (s.port p).state = st) (on : st ≠ .off) :=
      wakeAnswer_passed p coded outage supervised (state ▸ on)
    refine ⟨fun off => ?off, fun on spent => ?spent, fun stage idle => ?idle, fun stage up => ?up, fun stage bound => ?bound,
      fun stage lineTest keeps => ?kept, fun stage lineTest urgent unlocked => ?aborted⟩
    case off => exact exec_wake_refused taken (by rw [judged, if_pos off])
    case spent =>
      have exhausted : s.eff = .exhausted := Classical.not_not.mp fun unspent => spent (.inl unspent)
      have notUrgent : urgency ≠ 1 := fun urgent => spent (.inr urgent)
      exact exec_wake_refused taken (by rw [judged, if_neg on, if_pos ⟨exhausted, by omega⟩])
    case idle =>
      exact exec_wake_idle sound taken idle ((passed idle nofun stage).trans (wakeByState_idle _ idle))
    case up =>
      have on : (s.port p).state ≠ .off := by rcases up with h | h | h | h <;> rw [h] <;> nofun
      exact exec_wake_up taken ((passed rfl on stage).trans (wakeByState_up _ up))
    case bound =>
      have on : (s.port p).state ≠ .off := by rcases bound with h | h | h <;> rw [h] <;> nofun
      exact exec_wake_refused taken ((passed rfl on stage).trans (wakeByState_refused _ bound))
    case kept =>
      have holds : (urgency == 1) = false ∨ s.locked p = true := keeps.imp_left fun unurgent => by rw [unurgent]; rfl
      exact exec_wake_refused taken ((passed lineTest nofun stage).trans (wakeByState_lineTest_kept _ lineTest holds))
    case aborted =>
      subst urgent
      exact exec_wake_aborts sound taken lineTest
        ((passed lineTest nofun stage).trans (wakeByState_lineTest_aborted lineTest unlocked))

end Sys2Proof.Machine

/-! PROOF. The end of a line test (R161 to R163): the classification, the effect of the verdict on the port, and what is asked
of the store and raised to the host. -/

namespace Sys2Proof.Machine

open Sys2Proof.Claims

variable (s : State) (p r : PortId) (v : LineVerdict) (b : Borrowed)

/-! ### The classification (R161) -/

/-- The table of R161, as the statements write it. -/
theorem classify_eq_pairVerdict (t1 t2 t3 : Reading) :
    classify t1 t2 t3 = pairVerdict t1.aHigh t1.bHigh t2.aHigh t2.bHigh t3.aHigh t3.bHigh := by
  have rows : ∀ a1 b1 a2 b2 a3 b3 : Bool,
      classify ⟨a1, b1⟩ ⟨a2, b2⟩ ⟨a3, b3⟩ = pairVerdict a1 b1 a2 b2 a3 b3 := by decide
  exact rows t1.aHigh t1.bHigh t2.aHigh t2.bHigh t3.aHigh t3.bHigh

/-- The end of T3 while the part runs completes the test with the verdict of its six readings. -/
theorem exec_lineTestComplete {s : State} {x : LineTest} {r1 r2 : Reading} {aHigh bHigh : Bool} (runs : s.cond = .running)
    (under : s.pdi.instrument = some x) (phase : x.phase = .t3) (first : x.t1 = some r1) (second : x.t2 = some r2) :
    exec (.lineTestComplete aHigh bHigh) s =
      .next (s.finishTest x (pairVerdict r1.aHigh r1.bHigh r2.aHigh r2.bHigh aHigh bHigh)) := by
  have verdict : { x with t3 := some ⟨aHigh, bHigh⟩ : LineTest }.verdict =
      some (pairVerdict r1.aHigh r1.bHigh r2.aHigh r2.bHigh aHigh bHigh) := by
    simp only [LineTest.verdict, first, second, classify_eq_pairVerdict]
  change Host.Outcome.next (s.completeTest ⟨aHigh, bHigh⟩) = _
  rw [State.completeTest, under]
  simp only [phase] at verdict ⊢
  simp only [verdict, runs, if_true]

/-! ### The port leaves LINE_TEST (R162, R163, R81) -/

/-- A fault verdict (R163). -/
abbrev LineVerdict.Fault (v : LineVerdict) : Prop := v ≠ .normal ∧ v ≠ .indeterminate

/-- The verdict takes the port out of the lockout mask (R162). -/
abbrev LineVerdict.Unlocks (v : LineVerdict) (b : Borrowed) : Prop := v = .normal ∧ ¬ b = .fromIdle

/-- The verdict brings the port into the lockout mask (R163). -/
abbrev LineVerdict.Locks (v : LineVerdict) (b : Borrowed) : Prop := v.Fault ∧ b = .fromIdle

/-- The record of a port returned from a test by its verdict and the state it was borrowed from (R162, R163). -/
def Port.returned (v : LineVerdict) (b : Borrowed) (q : Port) : Port :=
  { q with
    state := if v = .normal ∨ (v = .indeterminate ∧ b = .fromIdle) then .idle else .locked
    rx := .hunt, tx := {}
    lockReason := if v = .normal then none else if v.Fault then some .lineFault else q.lockReason
    switch := { q.switch with trips := if v = .normal then 0 else q.switch.trips } }

/-- Out of a silent state the receiver listens again and the transmitter is empty (R81). -/
theorem Port.enter_of_silent {q : Port} {st : PortState} (heard : st.silent = false) (silent : q.state.silent = true) :
    q.enter st = { q with state := st, rx := .hunt, tx := {} } := by
  simp [Port.enter, heard, silent]

/-- One port changed twice. -/
theorem State.modPort_modPort (f g : Port → Port) : (s.modPort p f).modPort p g = s.modPort p fun q => g (f q) := by
  simp [State.modPort, State.setPort, State.port]

/-- A port changed and entered into a heard state from a silent one: the change of its record as a whole. -/
theorem State.modPort_enter_of_silent {f g : Port → Port} {st : PortState} (heard : st.silent = false)
    (silent : (f (s.port p)).state.silent = true)
    (record : { f (s.port p) with state := st, rx := .hunt, tx := {} } = g (s.port p)) :
    (s.modPort p f).enter p st = s.modPort p g := by
  rw [State.enter, State.modPort_modPort, State.modPort, State.modPort, Port.enter_of_silent heard silent, record]

/-- A port entered into a heard state from a silent one: the change of its record. -/
theorem State.enter_of_silent {g : Port → Port} {st : PortState} (heard : st.silent = false)
    (silent : (s.port p).state.silent = true)
    (record : { s.port p with state := st, rx := .hunt, tx := {} } = g (s.port p)) :
    s.enter p st = s.modPort p g := by
  rw [State.enter, State.modPort, State.modPort, Port.enter_of_silent heard silent, record]

/-- A fault verdict locks the port, or replaces the reason it is locked for (R163). -/
theorem State.afterVerdict_of_fault (fault : v.Fault) :
    s.afterVerdict v .fromIdle p = s.lock p .lineFault
      ∧ s.afterVerdict v .fromLocked p =
        (s.modPort p fun q => { q with lockReason := some .lineFault }).enter p .locked := by
  obtain ⟨faulty, determinate⟩ := fault
  cases v with
  | normal => exact absurd rfl faulty
  | indeterminate => exact absurd rfl determinate
  | _ => exact ⟨rfl, rfl⟩

section Verdict

variable {s p v b} (lineTest : (s.port p).state = .lineTest)
include lineTest

/-- A NORMAL verdict on a port borrowed from IDLE, which is locked for no reason (R162). -/
theorem State.afterVerdict_normal_fromIdle (unlocked : (s.port p).lockReason = none) :
    s.afterVerdict .normal .fromIdle p = s.modPort p (Port.returned .normal .fromIdle) := by
  rw [State.afterVerdict]
  exact s.modPort_enter_of_silent p rfl (by rw [lineTest]; rfl) (by simp [Port.returned, unlocked])

/-- A NORMAL verdict unlocks a port borrowed from LOCKED (R162). -/
theorem State.afterVerdict_normal_fromLocked :
    s.afterVerdict .normal .fromLocked p = (s.modPort p (Port.returned .normal .fromLocked)).requestCheckpoint := by
  rw [State.afterVerdict, State.unlock]
  exact congrArg _ (s.modPort_enter_of_silent p rfl (by rw [lineTest]; rfl) (by simp [Port.returned]))

/-- An INDETERMINATE verdict returns the port to the state it was borrowed from (R162). -/
theorem State.afterVerdict_indeterminate :
    s.afterVerdict .indeterminate b p = s.modPort p (Port.returned .indeterminate b) := by
  have silent : (s.port p).state.silent = true := by rw [lineTest]; rfl
  cases b with
  | fromIdle => exact s.enter_of_silent p rfl silent (by simp [Port.returned])
  | fromLocked => exact s.enter_of_silent p rfl silent (by simp [Port.returned])

/-- A fault verdict locks a port borrowed from IDLE (R163). -/
theorem State.afterVerdict_fault_fromIdle (fault : v.Fault) :
    s.afterVerdict v .fromIdle p = ((s.modPort p (Port.returned v .fromIdle)).raisePort .lockout p).requestCheckpoint := by
  obtain ⟨locks, -⟩ := s.afterVerdict_of_fault p v fault
  obtain ⟨faulty, determinate⟩ := fault
  rw [locks]
  refine congrArg (fun t : State => (t.raisePort .lockout p).requestCheckpoint) ?_
  exact s.modPort_enter_of_silent p rfl (by rw [lineTest]; rfl) (by simp [Port.returned, faulty, determinate])

/-- A fault verdict replaces the lock reason of a port borrowed from LOCKED (R163). -/
theorem State.afterVerdict_fault_fromLocked (fault : v.Fault) :
    s.afterVerdict v .fromLocked p = s.modPort p (Port.returned v .fromLocked) := by
  obtain ⟨-, relocks⟩ := s.afterVerdict_of_fault p v fault
  obtain ⟨faulty, determinate⟩ := fault
  rw [relocks]
  exact s.modPort_enter_of_silent p rfl (by rw [lineTest]; rfl) (by simp [Port.returned, faulty, determinate])

/-- What a verdict does: the port is returned; where that changes the lockout mask a checkpoint is asked for, and where the port
enters the mask LOCKOUT is raised (R162, R163, R47). -/
theorem State.afterVerdict_cases (unlocked : b = .fromIdle → (s.port p).lockReason = none) :
    (v.Unlocks b ∧ s.afterVerdict v b p = (s.modPort p (Port.returned v b)).requestCheckpoint)
      ∨ (v.Locks b ∧ s.afterVerdict v b p = ((s.modPort p (Port.returned v b)).raisePort .lockout p).requestCheckpoint)
      ∨ (¬ v.Unlocks b ∧ ¬ v.Locks b ∧ s.afterVerdict v b p = s.modPort p (Port.returned v b)) := by
  by_cases normal : v = .normal
  · subst normal
    cases b with
    | fromIdle => exact .inr (.inr ⟨by decide, by decide, State.afterVerdict_normal_fromIdle lineTest (unlocked rfl)⟩)
    | fromLocked => exact .inl ⟨by decide, State.afterVerdict_normal_fromLocked lineTest⟩
  by_cases indeterminate : v = .indeterminate
  · subst indeterminate
    exact .inr (.inr ⟨by simp, by simp, State.afterVerdict_indeterminate lineTest⟩)
  have fault : v.Fault := ⟨normal, indeterminate⟩
  cases b with
  | fromIdle => exact .inr (.inl ⟨⟨fault, rfl⟩, State.afterVerdict_fault_fromIdle lineTest fault⟩)
  | fromLocked => exact .inr (.inr ⟨by simp [normal], by simp, State.afterVerdict_fault_fromLocked lineTest fault⟩)

end Verdict

/-! ### The store (R47, R173, R175) -/

/-- Asking for a checkpoint reaches the store alone. -/
theorem State.requestCheckpoint_frame : s.requestCheckpoint = { s with nvs := s.requestCheckpoint.nvs } := by
  rcases s.requestCheckpoint_cases with ⟨-, h⟩ | ⟨-, h⟩
  · rw [h]; rfl
  · rw [h]

/-- A checkpoint asked for, as the statements write it (R173, R175). -/
theorem State.checkpointAsked_requestCheckpoint : checkpointAsked s.nvs s.requestCheckpoint false := by
  obtain ⟨-, -, high, timer, -⟩ := s.requestCheckpoint_nvs
  refine State.checkpointAsked_of_requested (timer := s.nvs.cpTimer) ?_
    (State.carriesPresent_checkpointNow (by simp) (by simp) (by simp) (fun p => State.locked_congr p ?_ ?_ ?_) high)
  · simp [← timer]
  all_goals simp

/-! ### A port under test (R47, R159) -/

/-- The instrument is connected to a port in LINE_TEST (R159). -/
theorem State.PortsSound.lineTest {s : State} {x : LineTest} (sound : s.PortsSound) (under : s.pdi.instrument = some x) :
    (s.port x.port).state = .lineTest := by
  obtain ⟨-, -, -, -, -, -, ⟨connected, -⟩, -⟩ := sound
  exact (connected x.port).mpr (by rw [under]; rfl)

/-- A port borrowed from IDLE has no lock reason: it is not in the lockout mask (R47). -/
theorem State.PortsSound.lockReason_borrowed {s : State} {x : LineTest} (sound : s.PortsSound)
    (under : s.pdi.instrument = some x) (fromIdle : x.borrowed = .fromIdle) : (s.port x.port).lockReason = none := by
  have unlocked : s.locked x.port = false := by
    simp [State.locked, sound.lineTest under, under, fromIdle]
  obtain ⟨-, -, -, -, -, -, ⟨-, reasons, -⟩, -⟩ := sound
  rw [← Option.not_isSome_iff_eq_none, reasons x.port, unlocked]
  decide

/-! ### The test's end as a whole (R161) -/

/-- The instrument idle, the record, the attempt and the due time set, and LINE_TEST_DONE raised: the completion before the port
leaves LINE_TEST. -/
def State.recordTest (p : PortId) (v : LineVerdict) (s : State) : State :=
  ({ s with pdi := { s.pdi with instrument := none } }.modPort p fun q =>
    { q with
      lineRecord := some ⟨v, s.sup.partTime⟩, lineAttempt := some (.verdict v), periodicDue := s.nextPeriodic }).raisePort
    .lineTestDone p

theorem State.finishTest_eq (x : LineTest) : s.finishTest x v = (s.recordTest x.port v).afterVerdict v x.borrowed x.port := rfl

theorem State.recordTest_port_self :
    (s.recordTest p v).port p = { s.port p with
      lineRecord := some ⟨v, s.sup.partTime⟩, lineAttempt := some (.verdict v), periodicDue := s.nextPeriodic } := by
  rw [State.recordTest, State.port_raisePort, State.port_modPort_self]
  rfl

theorem State.recordTest_port_ne (other : r ≠ p) : (s.recordTest p v).port r = s.port r := by
  rw [State.recordTest, State.port_raisePort, State.port_modPort_ne _ _ _ _ other]
  rfl

/-- The recording reaches the ports, the instrument and the host link's events, and nothing else. -/
theorem State.recordTest_frame :
    s.recordTest p v = { s with
      ports := (s.recordTest p v).ports, pdi := { s.pdi with instrument := none }, hlk := raisedPort s.hlk .lineTestDone p } := by
  rfl

/-- The completion with the port returned, before a lock is raised or a checkpoint asked for. -/
def State.endTest (x : LineTest) (v : LineVerdict) (s : State) : State :=
  (s.recordTest x.port v).modPort x.port (Port.returned v x.borrowed)

theorem State.endTest_port_self (x : LineTest) :
    (s.endTest x v).port x.port = Port.returned v x.borrowed { s.port x.port with
      lineRecord := some ⟨v, s.sup.partTime⟩, lineAttempt := some (.verdict v), periodicDue := s.nextPeriodic } := by
  rw [State.endTest, State.port_modPort_self, State.recordTest_port_self]

theorem State.endTest_port_ne {x : LineTest} (other : r ≠ x.port) : (s.endTest x v).port r = s.port r := by
  rw [State.endTest, State.port_modPort_ne _ _ _ _ other, State.recordTest_port_ne _ _ _ _ other]

theorem State.endTest_frame (x : LineTest) :
    s.endTest x v = { s with
      ports := (s.endTest x v).ports, pdi := { s.pdi with instrument := none }
      hlk := raisedPort s.hlk .lineTestDone x.port } := by
  rfl

section Finish

variable {s v} {x : LineTest} (sound : s.PortsSound) (under : s.pdi.instrument = some x)
include sound under

/-- Everything the end of a test can be: the port unlocked, the port locked, or the lockout mask as it was. -/
theorem State.finishTest_cases :
    (v.Unlocks x.borrowed ∧ s.finishTest x v = (s.endTest x v).requestCheckpoint)
      ∨ (v.Locks x.borrowed ∧ s.finishTest x v = ((s.endTest x v).raisePort .lockout x.port).requestCheckpoint)
      ∨ (¬ v.Unlocks x.borrowed ∧ ¬ v.Locks x.borrowed ∧ s.finishTest x v = s.endTest x v) := by
  have recorded := s.recordTest_port_self x.port v
  exact State.afterVerdict_cases (s := s.recordTest x.port v) (by rw [recorded]; exact sound.lineTest under)
    fun fromIdle => by rw [recorded]; exact sound.lockReason_borrowed under fromIdle

theorem State.finishTest_port : (s.finishTest x v).port r = (s.endTest x v).port r := by
  rcases State.finishTest_cases (v := v) sound under with ⟨-, h⟩ | ⟨-, h⟩ | ⟨-, -, h⟩ <;> simp [h]

/-- LOCKOUT is raised where the verdict locks the port, LINE_TEST_DONE in any case (R161, R163). -/
theorem State.finishTest_hlk :
    (s.finishTest x v).hlk =
      if v.Locks x.borrowed then raisedPort (raisedPort s.hlk .lineTestDone x.port) .lockout x.port
      else raisedPort s.hlk .lineTestDone x.port := by
  rcases State.finishTest_cases (v := v) sound under with ⟨unlocks, h⟩ | ⟨locks, h⟩ | ⟨-, stays, h⟩ <;> rw [h]
  · obtain ⟨normal, -⟩ := unlocks
    rw [if_neg fun ⟨⟨faulty, _⟩, _⟩ => faulty normal, State.requestCheckpoint_hlk]
    rfl
  · rw [if_pos locks, State.requestCheckpoint_hlk]
    rfl
  · rw [if_neg stays]
    rfl

/-- A checkpoint is asked for where the verdict changes the lockout mask (R47). -/
theorem State.finishTest_checkpointAsked (moves : v.Unlocks x.borrowed ∨ v.Locks x.borrowed) :
    checkpointAsked s.nvs (s.finishTest x v) false := by
  rcases State.finishTest_cases (v := v) sound under with ⟨-, h⟩ | ⟨-, h⟩ | ⟨kept, stays, -⟩
  · rw [h]
    exact (s.endTest x v).checkpointAsked_requestCheckpoint
  · rw [h]
    exact ((s.endTest x v).raisePort .lockout x.port).checkpointAsked_requestCheckpoint
  · exact absurd moves (not_or.mpr ⟨kept, stays⟩)

theorem State.finishTest_nvs (stays : ¬ (v.Unlocks x.borrowed ∨ v.Locks x.borrowed)) : (s.finishTest x v).nvs = s.nvs := by
  rcases State.finishTest_cases (v := v) sound under with ⟨unlocks, -⟩ | ⟨locks, -⟩ | ⟨-, -, h⟩
  · exact absurd (.inl unlocks) stays
  · exact absurd (.inr locks) stays
  · rw [h]
    rfl

/-- The end of a test reaches the ports, the instrument, the store and the host link's events, and nothing else. -/
theorem State.finishTest_frame :
    s.finishTest x v = { s with
      ports := (s.finishTest x v).ports, pdi := { s.pdi with instrument := none }
      nvs := (s.finishTest x v).nvs, hlk := (s.finishTest x v).hlk } := by
  rcases State.finishTest_cases (v := v) sound under with ⟨-, h⟩ | ⟨-, h⟩ | ⟨-, -, h⟩ <;> rw [h]
  · rw [State.requestCheckpoint_frame]
    rfl
  · rw [State.requestCheckpoint_frame]
    rfl
  · rfl

end Finish

/-- Settles O59: the verdict of the six readings, and each part of what the end of the test leaves by that verdict. -/
theorem lineTestCompletes : Obligations.LineTestCompletes := by
  intro s x r1 r2 aHigh bHigh sound runs under phase first second
  refine ⟨_, exec_lineTestComplete runs under phase first second, ?_⟩
  generalize pairVerdict r1.aHigh r1.bHigh r2.aHigh r2.bHigh aHigh bHigh = v
  have frame := State.finishTest_frame (v := v) sound under
  refine ⟨?port, by rw [frame], State.finishTest_hlk sound under, State.finishTest_checkpointAsked sound under,
    State.finishTest_nvs sound under, ?others, by rw [frame]⟩
  case port => exact (State.finishTest_port x.port sound under).trans (s.endTest_port_self v x)
  case others => exact fun r other => (State.finishTest_port r sound under).trans (s.endTest_port_ne r v other)

end Sys2Proof.Machine
